-- ==== Sys2Proof/Word.lean ====
section
/-! DEFINITION. The widths the spec names (00_scope.md R7, R10, R13): words of the register space, S24 samples, Q15
coefficients, 26-bit blocks and 104-bit groups. -/

namespace Sys2Proof

/-- One word of the register space, 32 bits (20_memory.md R70, R73). -/
abbrev Word := BitVec 32

/-- One character code (20_memory.md R74). -/
abbrev Byte := BitVec 8

/-- An S24 value as it stands in a register: 24 bits, two's complement (00_scope.md R13). -/
abbrev Sample := BitVec 24

/-- A Q15 coefficient or gain register, 16 bits (00_scope.md R7, COEF_W). -/
abbrev Coef := BitVec 16

/-- A word index of the register space, 9 bits; the byte address is four times it (30_encoding.md R101). -/
abbrev RegIndex := BitVec 9

/-- One RDS block, 26 bits (30_encoding.md R103). -/
abbrev BlockWord := BitVec 26

/-- One RDS group, 104 bits (30_encoding.md R104). -/
abbrev GroupWord := BitVec 104

end Sys2Proof
end

