-- ==== Sys2Proof/Config.lean ====
section
/-! DEFINITION. What an instantiation fixes (the four open parameters of 00_scope.md R8), what the environment may answer
(00_scope.md R9), and the free values: opaque constants without a body, of which nothing can be proved. -/

namespace Sys2Proof

/-- One entry of RS_BANK: L, M, T and the coefficient table COEF[0 .. L*T-1] (45_rate_converter.md R301). L is at least 1 and T is
at most 64 by type (log 20); the other constraints of R301 are `EntryOk` in Sys2Proof/Safety.lean. -/
structure BankEntry where
  l : { n : Nat // 0 < n }
  m : Nat
  t : Fin 65
  coef : List Coef
deriving DecidableEq, Repr

/-- FILE_SCALE, the parameter R8 leaves open, as plain data: the spec's default (factor 1) or some other instantiation, known by a
number only, whose words are the free value `Config.fileScaleOther` (log 5). -/
inductive FileScale where
  | unit
  | other (k : Nat)
deriving DecidableEq, Repr

/-- The open parameters of 00_scope.md R8. No step writes them (10_state.md R56). -/
structure Params where
  /-- PI_RESERVED (93_implementation_defined.md I1). -/
  piReserved : List (BitVec 16)
  /-- SHAPE_H, 480 signed 16-bit values (42_subcarrier_modulator.md R220). -/
  shapeH : List (BitVec 16)
  /-- RS_BANK, a finite map from an output rate in Hz to an entry (45_rate_converter.md R301). -/
  rsBank : List (Word × BankEntry)
  /-- FILE_SCALE (30_encoding.md R115). -/
  fileScale : FileScale
deriving DecidableEq, Repr

/-- One audio frame: two S24 values at the internal rate (10_state.md R58). -/
structure Frame where
  l : Sample
  r : Sample
deriving DecidableEq, Repr, Inhabited

/-- The sink's answer to `sink_open` (10_state.md R59, 93_implementation_defined.md I11). -/
inductive SinkAnswer where
  | ok
  | unavailable
  | unsupported
deriving DecidableEq, Repr, Inhabited

/-- The four kinds of step the agents can make (00_scope.md R16): a host bus operation of 42 bits, a sink take, a sink
failure, a hardware reset. -/
inductive AgentStep where
  | host (w : BitVec 42)
  | sinkTake
  | sinkFail
  | hwReset
deriving DecidableEq, Repr, Inhabited

/-! ### Free values. Each is applied to the model's counter of draws or to the operands it depends on (log 1, 5, 6, 7, 8). -/

/-- FREE: the environment's next step where the script says nothing (00_scope.md R9, R16; log 1). -/
opaque Config.agentStep : Nat → AgentStep

/-- FREE: the audio source's answer where none is listed, a frame or nothing (00_scope.md R9; log 1). -/
opaque Config.audioAnswer : Nat → Option Frame

/-- FREE: the sink's answer to an open request where none is listed (00_scope.md R9; log 1). -/
opaque Config.sinkAnswer : Nat → SinkAnswer

/-- FREE: the word of instantiation `k` of FILE_SCALE for a non-zero sample (00_scope.md R8; log 5). -/
opaque Config.fileScaleOther : Nat → Sample → Word

/-- FREE: the group the encoder returns on an active schedule no COMMIT admits (41_group_encoder.md R180; log 6). -/
opaque Config.freeGroup : Nat → GroupWord

/-- FREE: SCHED_IDX after such a schedule walk (41_group_encoder.md R181; log 6). -/
opaque Config.freeSchedIdx : Nat → BitVec 5

/-- FREE: entry `i` of the AF list for `i` above 24, where no register AFi exists (10_state.md R35; log 7). -/
opaque Config.absentAf : Nat → BitVec 11

/-- FREE: coefficient `i` of a bank entry beyond its table (45_rate_converter.md R301; log 8). -/
opaque Config.absentCoef : Nat → Coef

end Sys2Proof
end

