-- ==== Sys2Proof/Syntax.lean ====
section
/-! DEFINITION. The instructions: one constructor per row of spec/opcode_table.json (30_encoding.md R113), and the raw requests
they are read from, one form per format of 30_encoding.md R100. -/

namespace Sys2Proof

/-- The rows of format EVENT: steps that no bit pattern selects (30_encoding.md R113 (6)), in the table's order. -/
inductive Event where
  | tick
  | bit
  | nextGroup
  | rsOut
  | sinkTake
  | sinkFail
  | hwReset
deriving DecidableEq, Repr

/-- A raw request: the bits of one format, before decoding (30_encoding.md R100). The host's bus presents `bus`; `cmd` is the word
written to CMD; `slot`, `b2`, `block`, `group` are the engine's own formats; `event` is a step without an encoding. -/
inductive Request where
  | bus (w : BitVec 42)
  | cmd (w : BitVec 32)
  | slot (w : BitVec 2)
  | b2 (w : BitVec 16)
  | block (w : BitVec 26)
  | group (w : BitVec 104)
  | event (e : Event)
deriving DecidableEq, Repr

/-- The instructions, one per row of spec/opcode_table.json. Operands are the row's fields. -/
inductive Instr where
  /-- RD (40_host_operations.md R140): word index; wdata is carried and ignored. -/
  | rd (a : RegIndex) (wdata : Word)
  /-- WR (R141): word index and data. -/
  | wr (a : RegIndex) (wdata : Word)
  /-- NOP (R144); bits [31:8] of the command word are ignored (R102). -/
  | nop (ignored : BitVec 24)
  /-- COMMIT (R142, R143). -/
  | commit (ignored : BitVec 24)
  /-- START (R146 to R149). -/
  | start (ignored : BitVec 24)
  /-- STOP (R150). -/
  | stop (ignored : BitVec 24)
  /-- SOFT_RESET (R151). -/
  | softReset (ignored : BitVec 24)
  /-- CMD_RESERVED (R152): opcodes 0x05 to 0xFF. -/
  | cmdReserved (opcode : BitVec 8) (ignored : BitVec 24)
  /-- SLOT_0A (30_encoding.md R112). -/
  | slot0A
  /-- SLOT_2A. -/
  | slot2A
  /-- SLOT_4A. -/
  | slot4A
  /-- SLOT_RESERVED. -/
  | slotReserved
  /-- GROUP_0A (R107, R108): the fields of its block-2 word. -/
  | group0A (tp : Bool) (pty : BitVec 5) (ta ms di : Bool) (seg : BitVec 2)
  /-- GROUP_2A (R109). -/
  | group2A (tp : Bool) (pty : BitVec 5) (ab : Bool) (seg : BitVec 4)
  /-- GROUP_4A (R110). -/
  | group4A (tp : Bool) (pty : BitVec 5) (mjdHi : BitVec 2)
  /-- BLOCK (R103). -/
  | block (info : BitVec 16) (check : BitVec 10)
  /-- GROUP (R104). -/
  | group (b1 b2 b3 b4 : BlockWord)
  /-- TICK (44_multiplex_composer.md R290). -/
  | tick
  /-- BIT (42_subcarrier_modulator.md R212). -/
  | bit
  /-- NEXT_GROUP (41_group_encoder.md R180). -/
  | nextGroup
  /-- RS_OUT (45_rate_converter.md R304). -/
  | rsOut
  /-- SINK_TAKE (46_delivery_pipeline.md R336). -/
  | sinkTake
  /-- SINK_FAIL (46_delivery_pipeline.md R342). -/
  | sinkFail
  /-- HW_RESET (70_reset_and_hazards.md R400). -/
  | hwReset
deriving DecidableEq, Repr

end Sys2Proof
end

