-- ==== Sys2Proof/WellFormed.lean ====
section
/-! DEFINITION. Which instructions an encoding exists for. Operand widths are fixed by type; the one check left is the range of the
reserved command opcodes (30_encoding.md R102, R113: 0x05 to 0xFF). -/

namespace Sys2Proof

/-- `wellFormed i` holds when some word of the table's row decodes to `i`: a CMD_RESERVED opcode is 0x05 to 0xFF. -/
def wellFormed (i : Instr) : Bool :=
  match i with
  | .cmdReserved op _ => decide (5 ≤ op.toNat)
  | .rd _ _ | .wr _ _ | .nop _ | .commit _ | .start _ | .stop _ | .softReset _ => true
  | .slot0A | .slot2A | .slot4A | .slotReserved => true
  | .group0A _ _ _ _ _ _ | .group2A _ _ _ _ | .group4A _ _ _ => true
  | .block _ _ | .group _ _ _ _ => true
  | .tick | .bit | .nextGroup | .rsOut | .sinkTake | .sinkFail | .hwReset => true

end Sys2Proof
end

