-- ==== Sys2Proof/Decode.lean ====
section
/-! DEFINITION. Decoding and encoding of the formats of 30_encoding.md R101 to R112, and the numbering of spec/opcode_table.json. -/

namespace Sys2Proof

/-- Bit `n` of a word, as a flag. -/
def bitAt {w : Nat} (v : BitVec w) (n : Nat) : Bool := v.getLsbD n

/-- BUS: `write ‖ A[8:0] ‖ wdata[31:0]` (R101). -/
def decodeBus (w : BitVec 42) : Instr :=
  if bitAt w 41 then .wr (w.extractLsb' 32 9) (w.extractLsb' 0 32)
  else .rd (w.extractLsb' 32 9) (w.extractLsb' 0 32)

/-- CMD: bits [7:0] are the opcode, bits [31:8] are ignored (R102). -/
def decodeCmd (w : BitVec 32) : Instr :=
  let op : BitVec 8 := w.extractLsb' 0 8
  let ign : BitVec 24 := w.extractLsb' 8 24
  if op = 0 then .nop ign
  else if op = 1 then .commit ign
  else if op = 2 then .start ign
  else if op = 3 then .stop ign
  else if op = 4 then .softReset ign
  else .cmdReserved op ign

/-- SLOT: one schedule entry (R112). -/
def decodeSlot (w : BitVec 2) : Instr :=
  if w = 0 then .slot0A else if w = 1 then .slot2A else if w = 2 then .slot4A else .slotReserved

/-- B2: the block-2 information word (R107 to R110, R113 (4)): GT and VER select the group; group 4A also has its spare bits 0. Every
other word is the block-2 word of no group this hardware emits (R114 (c)). -/
def decodeB2 (w : BitVec 16) : Option Instr :=
  let gt : BitVec 5 := w.extractLsb' 11 5
  let tp := bitAt w 10
  let pty : BitVec 5 := w.extractLsb' 5 5
  if gt = 0 then some (.group0A tp pty (bitAt w 4) (bitAt w 3) (bitAt w 2) (w.extractLsb' 0 2))
  else if gt = 4 then some (.group2A tp pty (bitAt w 4) (w.extractLsb' 0 4))
  else if gt = 8 ∧ w.extractLsb' 2 3 = 0#3 then some (.group4A tp pty (w.extractLsb' 0 2))
  else none

/-- BLOCK: INFO in [25:10], CHECK in [9:0] (R103). -/
def decodeBlock (w : BlockWord) : Instr := .block (w.extractLsb' 10 16) (w.extractLsb' 0 10)

/-- GROUP: BLOCK1 in [103:78] to BLOCK4 in [25:0] (R104). -/
def decodeGroup (w : GroupWord) : Instr :=
  .group (w.extractLsb' 78 26) (w.extractLsb' 52 26) (w.extractLsb' 26 26) (w.extractLsb' 0 26)

/-- EVENT rows have no encoding: the step is named outright (R113 (6)). -/
def decodeEvent : Event → Instr
  | .tick => .tick
  | .bit => .bit
  | .nextGroup => .nextGroup
  | .rsOut => .rsOut
  | .sinkTake => .sinkTake
  | .sinkFail => .sinkFail
  | .hwReset => .hwReset

/-- The decoder: total on every request of every format. -/
def decode : Request → Option Instr
  | .bus w => some (decodeBus w)
  | .cmd w => some (decodeCmd w)
  | .slot w => some (decodeSlot w)
  | .b2 w => decodeB2 w
  | .block w => some (decodeBlock w)
  | .group w => some (decodeGroup w)
  | .event e => some (decodeEvent e)

/-- The command word with opcode `op` and ignored bits `ign` (R102). -/
def cmdWord (op : BitVec 8) (ign : BitVec 24) : BitVec 32 := ign ++ op

/-- The common upper part of block 2, GT and VER in the top five bits, then TP and PTY (R107). -/
def b2Word (gt : BitVec 5) (tp : Bool) (pty : BitVec 5) (low : BitVec 5) : BitVec 16 :=
  gt ++ BitVec.ofBool tp ++ pty ++ low

/-- The encoder, from the same tables of 30_encoding.md. -/
def encode : Instr → Request
  | .rd a d => .bus (0#1 ++ a ++ d)
  | .wr a d => .bus (1#1 ++ a ++ d)
  | .nop ign => .cmd (cmdWord 0 ign)
  | .commit ign => .cmd (cmdWord 1 ign)
  | .start ign => .cmd (cmdWord 2 ign)
  | .stop ign => .cmd (cmdWord 3 ign)
  | .softReset ign => .cmd (cmdWord 4 ign)
  | .cmdReserved op ign => .cmd (cmdWord op ign)
  | .slot0A => .slot 0
  | .slot2A => .slot 1
  | .slot4A => .slot 2
  | .slotReserved => .slot 3
  | .group0A tp pty ta ms di seg =>
      .b2 (b2Word 0 tp pty (BitVec.ofBool ta ++ BitVec.ofBool ms ++ BitVec.ofBool di ++ seg))
  | .group2A tp pty ab seg => .b2 (b2Word 4 tp pty (BitVec.ofBool ab ++ seg))
  | .group4A tp pty mjd => .b2 (b2Word 8 tp pty (0#3 ++ mjd))
  | .block info check => .block (info ++ check)
  | .group b1 b2 b3 b4 => .group (b1 ++ b2 ++ b3 ++ b4)
  | .tick => .event .tick
  | .bit => .event .bit
  | .nextGroup => .event .nextGroup
  | .rsOut => .event .rsOut
  | .sinkTake => .event .sinkTake
  | .sinkFail => .event .sinkFail
  | .hwReset => .event .hwReset

/-- The event rows numbered in the table's order, for a caller that has no bits to name them by (log 15). -/
def eventOfNumber (n : Nat) : Option Event :=
  match n with
  | 0 => some .tick
  | 1 => some .bit
  | 2 => some .nextGroup
  | 3 => some .rsOut
  | 4 => some .sinkTake
  | 5 => some .sinkFail
  | 6 => some .hwReset
  | _ => none

/-- The request whose bits are the table's word `w` of `nbits` bits. The table's width picks the format; 8 bits hold a SLOT code or
a bare opcode, 32 bits a CMD word or, where bits 31 to 26 are 0 and bits 25 to 8 are not all 0, a BLOCK (log 15). -/
def requestOfTableWord (nbits w : Nat) : Option Request :=
  if nbits = 0 then (eventOfNumber w).map .event
  else if nbits = 2 then some (.slot (BitVec.ofNat 2 w))
  else if nbits = 8 then
    if w < 4 then some (.slot (BitVec.ofNat 2 w)) else some (.cmd (BitVec.ofNat 32 w))
  else if nbits = 16 then some (.b2 (BitVec.ofNat 16 w))
  else if nbits = 26 then some (.block (BitVec.ofNat 26 w))
  else if nbits = 32 then
    if w < 2 ^ 26 ∧ 256 ≤ w then some (.block (BitVec.ofNat 26 w)) else some (.cmd (BitVec.ofNat 32 w))
  else if nbits = 42 ∨ nbits = 48 then some (.bus (BitVec.ofNat 42 w))
  else if nbits = 104 then some (.group (BitVec.ofNat 104 w))
  else none

/-- The instruction the decoder reads from the table's word (host's name). -/
def decodeTableWord (nbits w : Nat) : Option Instr :=
  match requestOfTableWord nbits w with
  | some r => decode r
  | none => none

/-- An agent's step as a request: only the four step kinds of 00_scope.md R16 occur. -/
def requestOfAgent : AgentStep → Request
  | .host w => .bus w
  | .sinkTake => .event .sinkTake
  | .sinkFail => .event .sinkFail
  | .hwReset => .event .hwReset

end Sys2Proof
end

