-- ==== Sys2Proof/Machine/Tables.lean ====
section
/-! DEFINITION. The constants and tables of the spec: 00_scope.md R7, 44_multiplex_composer.md R271, R272, 43_audio_conditioning.md R243,
30_encoding.md R105, and the default instantiation of the open parameters (42_subcarrier_modulator.md R223, 45_rate_converter.md R308). -/

namespace Sys2Proof.Machine

/-- GPOLY, the generator polynomial, 11 bits (00_scope.md R7, 41_group_encoder.md R170). -/
def gpoly : BitVec 11 := 0x5B9#11

/-- Offset word A, block 1 (30_encoding.md R105; from general knowledge, log 19). -/
def offsetA : BitVec 10 := 0x0FC#10

/-- Offset word B, block 2 (R105). -/
def offsetB : BitVec 10 := 0x198#10

/-- Offset word C, block 3 (R105). -/
def offsetC : BitVec 10 := 0x168#10

/-- Offset word D, block 4 (R105). -/
def offsetD : BitVec 10 := 0x1B4#10

/-- ID_VALUE (00_scope.md R7, 10_state.md R22). -/
def idValue : Word := 0x50464D37#32

/-- FS_INT, the internal rate in Hz (00_scope.md R7). -/
def fsInt : Word := 228000#32

/-- RDS_LEVEL_MAX (00_scope.md R7). -/
def rdsLevelMax : Nat := 3276

/-- BUF_MAX (00_scope.md R7). -/
def bufMax : Nat := 4096

/-- AF_MAX (00_scope.md R7). -/
def afMax : Nat := 25

/-- G_AUDIO, Q15 (44_multiplex_composer.md R272). -/
def gAudio : Int := 26214

/-- G_PILOT, Q15 (R272). -/
def gPilot : Int := 2949

/-- PE_K[PE_SEL], Q10: 11674 for 50 us, 17510 for 75 us (43_audio_conditioning.md R243). -/
def peK (sel : Bool) : Int := if sel then 17510 else 11674

/-- T12[p], one cycle of a sine in Q15 (44_multiplex_composer.md R271). -/
def t12 (p : Fin 12) : Int :=
  match p.val with
  | 0 => 0
  | 1 => 16384
  | 2 => 28378
  | 3 => 32767
  | 4 => 28378
  | 5 => 16384
  | 6 => 0
  | 7 => -16384
  | 8 => -28378
  | 9 => -32767
  | 10 => -28378
  | _ => -16384

/-- T12[(2 * p) mod 12], the 38 kHz carrier (R271). -/
def sub38 (p : Fin 12) : Int := t12 (p + p)

/-- C57[p mod 4], the 57 kHz carrier: 0, +1, 0, -1 (R271, 42_subcarrier_modulator.md R225). -/
def c57 (p : Fin 12) : Int :=
  match p.val % 4 with
  | 1 => 1
  | 3 => -1
  | _ => 0

/-- SHAPE_H[0..239] (R223), entries 0 to 59. -/
def shapeRows0 : List Int :=
  [293, 294, 294, 293, 290, 286, 281, 275, 267, 258, 247, 235,
   222, 208, 193, 177, 159, 140, 121, 101, 79, 58, 35, 12,
   -12, -36, -60, -85, -109, -134, -159, -183, -207, -231, -254, -276,
   -298, -318, -338, -357, -374, -391, -406, -419, -431, -441, -450, -456,
   -461, -464, -465, -464, -461, -456, -448, -439, -427, -414, -398, -380]

/-- SHAPE_H[0..239] (R223), entries 60 to 119. -/
def shapeRows1 : List Int :=
  [-360, -338, -314, -288, -260, -230, -199, -166, -131, -95, -58, -20,
   20, 60, 101, 143, 185, 227, 269, 312, 354, 395, 436, 476,
   515, 553, 589, 624, 656, 687, 716, 742, 766, 787, 805, 820,
   832, 840, 845, 846, 844, 838, 828, 813, 795, 773, 746, 716,
   681, 642, 599, 552, 501, 446, 387, 324, 258, 188, 115, 39]

/-- SHAPE_H[0..239] (R223), entries 120 to 179. -/
def shapeRows2 : List Int :=
  [-40, -121, -205, -291, -379, -468, -558, -650, -742, -834, -926, -1017,
   -1107, -1196, -1283, -1367, -1449, -1528, -1602, -1673, -1739, -1800, -1856, -1905,
   -1948, -1984, -2012, -2032, -2044, -2047, -2040, -2024, -1997, -1960, -1912, -1852,
   -1780, -1696, -1599, -1489, -1367, -1230, -1080, -916, -738, -545, -338, -116,
   120, 371, 638, 919, 1215, 1525, 1850, 2190, 2544, 2913, 3295, 3691]

/-- SHAPE_H[0..239] (R223), entries 180 to 239. -/
def shapeRows3 : List Int :=
  [4100, 4523, 4958, 5405, 5865, 6336, 6817, 7309, 7811, 8323, 8842, 9370,
   9906, 10448, 10996, 11549, 12107, 12669, 13233, 13800, 14368, 14937, 15505, 16072,
   16637, 17199, 17758, 18311, 18860, 19401, 19936, 20462, 20979, 21487, 21984, 22469,
   22942, 23402, 23848, 24280, 24696, 25096, 25479, 25845, 26192, 26521, 26831, 27121,
   27391, 27640, 27867, 28073, 28258, 28419, 28559, 28675, 28768, 28839, 28885, 28909]

/-- COEF[0..95] (R308), entries 0 to 47. -/
def coefRows0 : List Int :=
  [33, 32, 30, 27, 24, 20, 15, 10, 4, -2, -10, -18,
   -27, -36, -46, -56, -65, -75, -83, -91, -97, -101, -104, -103,
   -100, -94, -84, -71, -54, -34, -9, 18, 48, 81, 116, 151,
   187, 223, 256, 287, 314, 336, 352, 360, 360, 352, 333, 305]

/-- COEF[0..95] (R308), entries 48 to 95. -/
def coefRows1 : List Int :=
  [266, 216, 155, 85, 6, -81, -176, -275, -377, -481, -583, -681,
   -772, -854, -923, -978, -1014, -1029, -1022, -989, -929, -841, -722, -574,
   -395, -185, 54, 320, 613, 928, 1265, 1618, 1985, 2361, 2741, 3121,
   3497, 3863, 4214, 4546, 4854, 5134, 5382, 5594, 5767, 5900, 5984, 6034]

/-- The first half of the default SHAPE_H (42_subcarrier_modulator.md R223). -/
def shapeHalf : List Int := shapeRows0 ++ shapeRows1 ++ shapeRows2 ++ shapeRows3

/-- The default SHAPE_H: SHAPE_H[k] = SHAPE_H[479 - k] (R223). -/
def defaultShapeH : List (BitVec 16) := (shapeHalf ++ shapeHalf.reverse).map (BitVec.ofInt 16)

/-- The first half of the default COEF table (45_rate_converter.md R308). -/
def coefHalf : List Int := coefRows0 ++ coefRows1

/-- The default COEF table: COEF[i] = COEF[191 - i] (R308). -/
def defaultCoef : List Coef := (coefHalf ++ coefHalf.reverse).map (BitVec.ofInt 16)

/-- The default entry, 48000 Hz: L = 4, M = 19, T = 48 (R301). -/
def defaultEntry : BankEntry := ⟨⟨4, by decide⟩, 19, 48, defaultCoef⟩

/-- The default instantiation of the open parameters (00_scope.md R8; log 4). -/
def defaultParams : Params := ⟨[], defaultShapeH, [(48000#32, defaultEntry)], .unit⟩

end Sys2Proof.Machine
end

