-- ==== Sys2Proof/Machine/State.lean ====
section
/-! DEFINITION. The state of the PulseFM CORE (10_state.md), the outcomes besides a next state, and the state after a hardware reset
(10_state.md R61). Field by field the list is INVENTORY.md, section State. -/

namespace Sys2Proof.Machine

/-- The control registers that store something (10_state.md R25 to R30). -/
structure Control where
  /-- ERR[6:0], sticky flags (R25). -/
  err : BitVec 7
  /-- ERR_INFO.CODE (R26). -/
  errInfo : BitVec 8
  /-- IRQ_EN[6:0] (R27). -/
  irqEn : BitVec 7
  /-- MODE.LIVE (R28). -/
  live : Bool
  /-- OUT_RATE (R29). -/
  outRate : Word
  /-- BUF_LEN (R30). -/
  bufLen : BitVec 13
deriving DecidableEq, Repr

/-- The station half of one configuration copy (10_state.md R31 to R37). Text is held as the register words; characters are the
view of 20_memory.md R74. -/
structure Station where
  pi : BitVec 16
  /-- FLAGS[11:0]: PTY [4:0], TP [5], TA [6], MS [7], DI [11:8] (R32). -/
  flags : BitVec 12
  psLen : BitVec 4
  ps : Vector Word 2
  rtLen : BitVec 7
  rt : Vector Word 16
  afCount : BitVec 5
  af : Vector (BitVec 11) 25
  ctValid : Bool
  ctMjd : BitVec 17
  hour : BitVec 5
  minute : BitVec 6
  offMag : BitVec 5
  offSign : Bool
  schedLen : BitVec 6
  sched : Vector (BitVec 2) 32
deriving DecidableEq, Repr

/-- The audio half of one configuration copy (10_state.md R38 to R40). -/
structure Audio where
  sep : Coef
  gain : Coef
  rdsLevel : Coef
  peSel : Bool
  compThr : BitVec 24
  compSlope : Coef
  compAtt : Coef
  compRel : Coef
  limCeil : BitVec 24
  limRel : Coef
deriving DecidableEq, Repr

/-- One configuration copy, both halves (10_state.md R21). -/
structure Settings where
  station : Station
  audio : Audio
deriving DecidableEq, Repr

/-- PEND_RDS, PEND_AUD, CFG_VALID (10_state.md R41) and RT_AB (R42). -/
structure CommitFlags where
  pendRds : Bool
  pendAud : Bool
  cfgValid : Bool
  rtAb : Bool
deriving DecidableEq, Repr

/-- The sequencing cursor (10_state.md R44). -/
structure Cursor where
  schedIdx : BitVec 5
  psIdx : BitVec 2
  rtIdx : BitVec 4
  afIdx : BitVec 4
deriving DecidableEq, Repr

/-- A symbol sign, -1, 0 or +1; 0 means no bit yet (10_state.md R46). -/
inductive Sign where
  | minus
  | zero
  | plus
deriving DecidableEq, Repr

/-- The modulator (10_state.md R45 to R47). The three counters' ranges are in their types (log 18). -/
structure Modulator where
  groupSr : GroupWord
  bitIdx : Fin 104
  bitPh : Fin 192
  dprev : Bool
  sym0 : Sign
  sym1 : Sign
  sym2 : Sign
  phase : Fin 12
deriving DecidableEq, Repr

/-- The conditioning state (10_state.md R48). -/
structure Conditioning where
  x1l : Sample
  x1r : Sample
  env : BitVec 24
  gc : Coef
  lg : Coef
deriving DecidableEq, Repr

/-- The rate converter (10_state.md R49): RS_HIST, RS_POS and the latched bank entry RS_L, RS_M, RS_T, RS_COEF. -/
structure Converter where
  hist : Vector Sample 64
  pos : BitVec 11
  entry : BankEntry
deriving DecidableEq, Repr

/-- STATE (10_state.md R24, R50): the values 2 and 3 never occur (93_implementation_defined.md I10). -/
inductive StreamState where
  | idle
  | streaming
deriving DecidableEq, Repr

/-- The pipeline (10_state.md R50). -/
structure Pipeline where
  stream : StreamState
  stopReq : Bool
  bufPos : BitVec 13
  liveAct : Bool
  bufLenAct : BitVec 13
deriving DecidableEq, Repr

/-- The monitor accumulators (10_state.md R51). -/
structure Accumulators where
  peak : BitVec 24
  pkMono : BitVec 24
  pkStereo : BitVec 24
  pkPilot : BitVec 24
  pkRds : BitVec 24
  sumsq : BitVec 64
  n : BitVec 32
deriving DecidableEq, Repr

/-- The monitor registers (10_state.md R52). -/
structure Monitors where
  peak : BitVec 24
  sumsq : BitVec 64
  n : BitVec 32
  pkMono : BitVec 24
  pkStereo : BitVec 24
  pkPilot : BitVec 24
  pkRds : BitVec 24
  pilotLvl : Coef
  rdsLvl : Coef
  gc : Coef
  lg : Coef
deriving DecidableEq, Repr

/-- The counters (10_state.md R53). -/
structure Counters where
  groupCount : BitVec 32
  tick : BitVec 64
deriving DecidableEq, Repr

/-- What an engine row of the opcode table returns when it is run alone: the MODEL's own observation (log 3, 11, 14). -/
inductive EngineResult where
  | none
  /-- A composite or output sample (TICK, RS_OUT). -/
  | sample (v : Sample)
  /-- A group of 104 bits (NEXT_GROUP, SLOT_x, GROUP_x). -/
  | group (g : GroupWord)
  /-- A 4A slot that was skipped because CT_VALID = 0 (SLOT_4A). -/
  | skipped
  /-- The syndromes of the blocks of a BLOCK or GROUP word, first block first (41_group_encoder.md R174). -/
  | syndromes (l : List (BitVec 10))
deriving DecidableEq, Repr

/-- What the output ports carried in the step just made (10_state.md R57, R59; log 14). -/
structure Outputs where
  /-- rdata of a host read. -/
  rdata : Option Word
  /-- (OUT_Q, OUT_F32) of a sink take. -/
  sample : Option (Sample × Word)
  /-- The request `sink_open(rate_hz, live)`. -/
  sinkOpen : Option (Word × Bool)
  /-- The pulse `sink_release`. -/
  sinkRelease : Bool
  /-- The MODEL's own: what an engine row returned. -/
  engine : EngineResult
deriving DecidableEq, Repr

/-- No port active. -/
def Outputs.quiet : Outputs := ⟨none, none, none, false, .none⟩

/-- The environment as plain data, the MODEL's own (00_scope.md R9; log 1): the agents' next steps, each of one of the four kinds of R16,
the audio source's next answers, the sink's next answers to an open request, and the number of free values drawn so far. `row` is no part of
the environment: it is a row of the opcode table put before the machine alone (log 2, log 3); no agent and no step fills it, and with `none`
in it, as at reset, `step` is the hardware's step relation. -/
structure World where
  script : List AgentStep
  audio : List (Option Frame)
  sink : List SinkAnswer
  draws : Nat
  row : Option Request
deriving DecidableEq, Repr

/-- The whole machine. `par` holds the open parameters (log 4), `world` the environment (log 1), `out` the output ports (log 14). -/
structure State where
  ctl : Control
  sh : Settings
  pe : Settings
  ac : Settings
  flags : CommitFlags
  cur : Cursor
  modu : Modulator
  cond : Conditioning
  conv : Converter
  pipe : Pipeline
  acc : Accumulators
  mon : Monitors
  cnt : Counters
  out : Outputs
  par : Params
  world : World
deriving DecidableEq, Repr

/-- Faults: there are none. Every step of this hardware completes (60_exceptions.md R360, R381; 93_implementation_defined.md, end of
Part 1; log 21), so the type has no constructor and `fault` is never answered. Safe. -/
inductive Fault where
deriving DecidableEq, Repr

/-- Refusals: the step has no meaning. -/
inductive Refusal where
  /-- Raised by `exec` for an instruction without a meaning yet (no arm of this model does). Safe. -/
  | notModelled (mnemonic : String)
  /-- Raised by `step` when the request is a 16-bit word that is the block-2 word of no group this hardware emits: a group type other
  than 0A, 2A, 4A, a version B group, or a 4A word with a spare bit set (30_encoding.md R114 (c), (d)). No agent can present such a
  request. Safe. -/
  | undecodable
deriving DecidableEq, Repr

/-- The station half after a hardware reset (10_state.md R61). -/
def Station.reset : Station :=
  { pi := 0, flags := 0, psLen := 0, ps := Vector.replicate 2 0, rtLen := 0, rt := Vector.replicate 16 0,
    afCount := 0, af := Vector.replicate 25 0, ctValid := false, ctMjd := 0, hour := 0, minute := 0, offMag := 0,
    offSign := false, schedLen := 6,
    sched := #v[0, 0, 0, 0, 1, 2, 0, 0, 0, 0, 0, 0, 0, 0, 0, 0, 0, 0, 0, 0, 0, 0, 0, 0, 0, 0, 0, 0, 0, 0, 0, 0] }

/-- The audio half after a hardware reset (R61). -/
def Audio.reset : Audio :=
  { sep := 32768, gain := 32768, rdsLevel := 1638, peSel := false, compThr := 0x7FFFFF, compSlope := 32768,
    compAtt := 144, compRel := 1, limCeil := 0x7FFFFF, limRel := 1 }

/-- One configuration copy after a hardware reset (R61: the same in all copies). -/
def Settings.reset : Settings := ⟨Station.reset, Audio.reset⟩

/-- The control registers after a hardware reset (R61). -/
def Control.reset : Control :=
  { err := 0, errInfo := 0, irqEn := 0, live := false, outRate := 48000, bufLen := 1024 }

/-- The commit flags after a hardware reset (R61). -/
def CommitFlags.reset : CommitFlags := ⟨false, false, false, false⟩

/-- The cursor after a reset of either strength (R61, R62). -/
def Cursor.reset : Cursor := ⟨0, 0, 0, 0⟩

/-- The modulator after a reset of either strength (R61, R62). -/
def Modulator.reset : Modulator :=
  { groupSr := 0, bitIdx := 0, bitPh := 0, dprev := false, sym0 := .zero, sym1 := .zero, sym2 := .zero, phase := 0 }

/-- The conditioning state after a reset of either strength (R61, R62). -/
def Conditioning.reset : Conditioning := { x1l := 0, x1r := 0, env := 0, gc := 32768, lg := 32768 }

/-- The converter after a hardware reset (R61). -/
def Converter.reset : Converter := ⟨Vector.replicate 64 0, 4, defaultEntry⟩

/-- The pipeline after a hardware reset (R61). -/
def Pipeline.reset : Pipeline :=
  { stream := .idle, stopReq := false, bufPos := 0, liveAct := false, bufLenAct := 1024 }

/-- The accumulators after a reset of either strength, and at each buffer's start (R61, 46_delivery_pipeline.md R339). -/
def Accumulators.reset : Accumulators := ⟨0, 0, 0, 0, 0, 0, 0⟩

/-- The monitor registers after a reset of either strength (R61, R62). -/
def Monitors.reset : Monitors :=
  { peak := 0, sumsq := 0, n := 0, pkMono := 0, pkStereo := 0, pkPilot := 0, pkRds := 0,
    pilotLvl := 0, rdsLvl := 0, gc := 32768, lg := 32768 }

/-- The counters after a reset of either strength (R61, R62). -/
def Counters.reset : Counters := ⟨0, 0⟩

/-- Nothing listed about the environment, nothing drawn yet, no row put before the machine: DESIGN CHOICE, the model's own field (log 1,
log 2). -/
def World.reset : World := ⟨[], [], [], 0, none⟩

/-- The machine right after a hardware reset (10_state.md R61, 70_reset_and_hazards.md R400), with the default instantiation of the open
parameters (log 4) and nothing listed about the environment (log 1). -/
def State.reset : State :=
  { ctl := Control.reset, sh := Settings.reset, pe := Settings.reset, ac := Settings.reset, flags := CommitFlags.reset,
    cur := Cursor.reset, modu := Modulator.reset, cond := Conditioning.reset, conv := Converter.reset,
    pipe := Pipeline.reset, acc := Accumulators.reset, mon := Monitors.reset, cnt := Counters.reset,
    out := Outputs.quiet, par := defaultParams, world := World.reset }

end Sys2Proof.Machine
end

