-- ==== Sys2Proof/Machine/Update.lean ====
section
/-! DEFINITION. One named update per part of the state. Their lemmas are in Sys2Proof/Laws/State.lean. -/

namespace Sys2Proof.Machine

/-- The state with `ctl` replaced. -/
def State.setCtl (s : State) (v : Control) : State := { s with ctl := v }

/-- The state with `sh` replaced. -/
def State.setSh (s : State) (v : Settings) : State := { s with sh := v }

/-- The state with `pe` replaced. -/
def State.setPe (s : State) (v : Settings) : State := { s with pe := v }

/-- The state with `ac` replaced. -/
def State.setAc (s : State) (v : Settings) : State := { s with ac := v }

/-- The state with `flags` replaced. -/
def State.setFlags (s : State) (v : CommitFlags) : State := { s with flags := v }

/-- The state with `cur` replaced. -/
def State.setCur (s : State) (v : Cursor) : State := { s with cur := v }

/-- The state with `modu` replaced. -/
def State.setModu (s : State) (v : Modulator) : State := { s with modu := v }

/-- The state with `cond` replaced. -/
def State.setCond (s : State) (v : Conditioning) : State := { s with cond := v }

/-- The state with `conv` replaced. -/
def State.setConv (s : State) (v : Converter) : State := { s with conv := v }

/-- The state with `pipe` replaced. -/
def State.setPipe (s : State) (v : Pipeline) : State := { s with pipe := v }

/-- The state with `acc` replaced. -/
def State.setAcc (s : State) (v : Accumulators) : State := { s with acc := v }

/-- The state with `mon` replaced. -/
def State.setMon (s : State) (v : Monitors) : State := { s with mon := v }

/-- The state with `cnt` replaced. -/
def State.setCnt (s : State) (v : Counters) : State := { s with cnt := v }

/-- The state with `out` replaced. -/
def State.setOut (s : State) (v : Outputs) : State := { s with out := v }

/-- The state with `world` replaced. -/
def State.setWorld (s : State) (v : World) : State := { s with world := v }

/-- The state with other open parameters. No step does this (10_state.md R56). -/
def State.withPar (s : State) (v : Params) : State := { s with par := v }

end Sys2Proof.Machine
end

