-- ==== Sys2Proof/Machine/Flags.lean ====
section
/-! DEFINITION. The flags of ERR and the interrupt line (10_state.md R25, R27, 60_exceptions.md R361, R362, R370). -/

namespace Sys2Proof.Machine

/-- The five error classes (60_exceptions.md R361, R362). -/
inductive ErrorClass where
  | configuration
  | sink
  | rateConversion
  | startBusy
  | badCommand
deriving DecidableEq, Repr

/-- bit(Class) (R362). -/
def errBit : ErrorClass → Nat
  | .configuration => 0
  | .sink => 1
  | .rateConversion => 2
  | .startBusy => 3
  | .badCommand => 4

/-- Bit of AIN_UNDER (R361). -/
def ainUnderBit : Nat := 5

/-- Bit of CLIP (R361). -/
def clipBit : Nat := 6

/-- ERR with flag `n` set; a flag already 1 stays 1 (R362). -/
def errWith (err : BitVec 7) (n : Nat) : BitVec 7 := err ||| BitVec.twoPow 7 n

/-- Set one flag of ERR and nothing else: what a status event does (R362, R368, R369). -/
def setErrFlag (n : Nat) (s : State) : State := s.setCtl { s.ctl with err := errWith s.ctl.err n }

/-- The W1C write of ERR: clear exactly the flags written as 1 (20_memory.md R76, 40_host_operations.md R141). -/
def clearErr (v : Word) (s : State) : State :=
  s.setCtl { s.ctl with err := s.ctl.err &&& ~~~(v.setWidth 7) }

/-- `irq` = 1 exactly when (ERR and IRQ_EN) is not 0 (60_exceptions.md R370). -/
def State.irq (s : State) : Bool := decide (s.ctl.err &&& s.ctl.irqEn ≠ 0)

end Sys2Proof.Machine
end

