-- ==== Sys2Proof/Machine/Arith.lean ====
section
/-! DEFINITION. The arithmetic primitives (00_scope.md R14), the register views of integers (R10, R13), polynomial remainder
(41_group_encoder.md R170 to R174) and the output word (30_encoding.md R116). -/

namespace Sys2Proof.Machine

/-- sat24 (R14). -/
def sat24 (v : Int) : Int :=
  if v < -8388608 then -8388608 else if 8388607 < v then 8388607 else v

/-- mulq15t, the Q15 multiply truncated toward zero (R14): the sign of the product times floor(|product| / 32768). -/
def mulq15t (a c : Int) : Int :=
  if 0 ≤ a * c then (a * c) / 32768 else -((-(a * c)) / 32768)

/-- mulk, the Q10 multiply rounded half up (R14). -/
def mulk (d k : Int) : Int := (d * k + 512) / 1024

/-- rnd15, Q15 rounding half up (R14). -/
def rnd15 (v : Int) : Int := (v + 16384) / 32768

/-- An integer as an S24 register holds it (R13; truncation to the element's width, log 17). -/
def toSample (v : Int) : Sample := BitVec.ofInt 24 v

/-- An integer as an unsigned register of `w` bits holds it (R10; log 17). -/
def toReg (w : Nat) (v : Int) : BitVec w := BitVec.ofInt w v

/-- An unsigned register as an integer. -/
def regInt {w : Nat} (v : BitVec w) : Int := (v.toNat : Int)

/-- rem(v, W) of R170, from the bits still to come, most significant first, and the remainder so far. -/
def remBits : List Bool → BitVec 11 → BitVec 11
  | [], r => r
  | b :: bs, r =>
    let r1 := (r <<< 1) ||| (BitVec.ofBool b).setWidth 11
    remBits bs (if r1.getLsbD 10 then r1 ^^^ gpoly else r1)

/-- The bits of a word, most significant first. -/
def bitsMsb {w : Nat} (v : BitVec w) : List Bool := (List.range w).reverse.map v.getLsbD

/-- rem(v, W), the remainder on division by GPOLY (R170). -/
def polyRem {w : Nat} (v : BitVec w) : BitVec 10 := (remBits (bitsMsb v) 0).setWidth 10

/-- crc10(m) = rem(m << 10, 26) (R172). -/
def crc10 (m : BitVec 16) : BitVec 10 := polyRem (m ++ 0#10)

/-- checkword(m, off) (R173). -/
def checkword (m : BitVec 16) (off : BitVec 10) : BitVec 10 := crc10 m ^^^ off

/-- block26(m, off) (R173). -/
def block26 (m : BitVec 16) (off : BitVec 10) : BlockWord := m ++ checkword m off

/-- syndrome(b) = rem(b, 26) (R174); a function of the specification, the hardware computes none. -/
def syndrome (b : BlockWord) : BitVec 10 := polyRem b

/-- assemble(B1, B2, B3, B4), block 1 in bits [103:78] (R187). -/
def assemble (b1 b2 b3 b4 : BitVec 16) : GroupWord :=
  block26 b1 offsetA ++ block26 b2 offsetB ++ block26 b3 offsetC ++ block26 b4 offsetD

/-- The four blocks of a group, first sent first (30_encoding.md R104). -/
def blocksOf (g : GroupWord) : List BlockWord :=
  [g.extractLsb' 78 26, g.extractLsb' 52 26, g.extractLsb' 26 26, g.extractLsb' 0 26]

/-- f32_of_q of the magnitude `m` with sign bit `sg` (30_encoding.md R116). -/
def f32Word (sg m : Nat) : Word :=
  let e := Nat.log2 m
  BitVec.ofNat 32 (sg * 2 ^ 31 + (104 + e) * 2 ^ 23 + (m * 2 ^ (23 - e)) % 2 ^ 23)

/-- f32_of_q(v) (R116). -/
def f32OfQ (v : Int) : Word :=
  if v = 0 then 0 else f32Word (if v < 0 then 1 else 0) v.natAbs

/-- FILE_SCALE(v) (00_scope.md R8): 0 for 0; the default is f32_of_q; another instantiation's words are free (log 5). -/
def fileWord (fs : FileScale) (v : Int) : Word :=
  if v = 0 then 0
  else match fs with
    | .unit => f32OfQ v
    | .other k => Config.fileScaleOther k (toSample v)

end Sys2Proof.Machine
end

