-- ==== Sys2Proof/Machine/Operands.lean ====
section
/-! DEFINITION. The operands: the address map of the register space (20_memory.md R72), the fields of every register
(10_state.md R22 to R53), and the views the encoder reads (R43). -/

namespace Sys2Proof.Machine

/-! ### Fields and views of the station half -/

/-- PTY, FLAGS[4:0] (10_state.md R32). -/
def Station.pty (st : Station) : BitVec 5 := st.flags.extractLsb' 0 5

/-- TP, FLAGS[5]. -/
def Station.tp (st : Station) : Bool := st.flags.getLsbD 5

/-- TA, FLAGS[6]. -/
def Station.ta (st : Station) : Bool := st.flags.getLsbD 6

/-- MS, FLAGS[7]. -/
def Station.ms (st : Station) : Bool := st.flags.getLsbD 7

/-- DI[k], FLAGS[8 + k]. -/
def Station.di (st : Station) (k : Nat) : Bool := st.flags.getLsbD (8 + k)

/-- Byte `k` of a word, little endian (20_memory.md R74). -/
def wordByte (w : Word) (k : Nat) : Byte := w.extractLsb' (8 * k) 8

/-- PS[i] (10_state.md R33, 20_memory.md R74). -/
def Station.psChar (st : Station) (i : Fin 8) : Byte :=
  wordByte (st.ps[i.val / 4]'(by omega)) (i.val % 4)

/-- RT[i] (10_state.md R34, 20_memory.md R74). -/
def Station.rtChar (st : Station) (i : Fin 64) : Byte :=
  wordByte (st.rt[i.val / 4]'(by omega)) (i.val % 4)

/-- PSP[i] (10_state.md R43). -/
def Station.psp (st : Station) (i : Fin 8) : Byte :=
  if i.val < min st.psLen.toNat 8 then st.psChar i else 0x20#8

/-- RTP[i] (R43). -/
def Station.rtp (st : Station) (i : Fin 64) : Byte :=
  if i.val < st.rtLen.toNat then st.rtChar i else 0x20#8

/-- The 64 padded RadioText characters (R43), the text adoption compares (20_memory.md R82). -/
def Station.paddedText (st : Station) : List Byte := List.ofFn st.rtp

/-- AF[i]; beyond AF24 there is no register and the value is free (10_state.md R35; log 7). -/
def Station.afEntry (st : Station) (i : Nat) : BitVec 11 :=
  if h : i < 25 then st.af[i] else Config.absentAf i

/-- The 8-bit code of a frequency, f - 875 (30_encoding.md R111 (a)). -/
def afCode (f : BitVec 11) : Byte := BitVec.ofInt 8 (regInt f - 875)

/-- CL, the AF code list (10_state.md R43): the count code, the frequencies, and the filler if the count is even. -/
def Station.codeList (st : Station) : List Byte :=
  let n := st.afCount.toNat
  (BitVec.ofNat 8 (224 + n) :: (List.range n).map fun i => afCode (st.afEntry i)) ++
    (if n % 2 = 0 then [205#8] else [])

/-- NPAIRS (R43). -/
def Station.nPairs (st : Station) : Nat := st.codeList.length / 2

/-- SCHED[i] (10_state.md R37). -/
def Station.slotAt (st : Station) (i : BitVec 5) : BitVec 2 :=
  st.sched[i.toNat]'(by have := i.isLt; omega)

/-! ### The address map -/

/-- The configuration registers, one name per register of 20_memory.md R72 from 0x040 to 0x1E4. -/
inductive ConfReg where
  | pi | flags | psLen
  | ps (i : Fin 2)
  | rtLen | afCount | ctCtrl | ctMjd | ctTime | schedLen
  | rt (i : Fin 16)
  | af (i : Fin 25)
  | sched (i : Fin 32)
  | sep | gain | rdsLevel | peSel | compThr | compSlope | compAtt | compRel | limCeil | limRel
deriving DecidableEq, Repr

/-- The registers of the register space (20_memory.md R72). -/
inductive Reg where
  | id | cmd | status | err | errInfo | irqEn | mode | outRate | bufLen
  | shadow (r : ConfReg)
  | monPeak | monSumsqLo | monSumsqHi | monN | monPkMono | monPkStereo | monPkPilot | monPkRds
  | monPilotLvl | monRdsLvl | monGc | monLg | groupCount | tickLo | tickHi | cursor
  | active (r : ConfReg)
deriving DecidableEq, Repr

/-- The configuration register at word index `n` of the shadow window, byte address 4 * n (R72). -/
def confRegAt (n : Nat) : Option ConfReg :=
  if h : 0x20 ≤ n ∧ n < 0x30 then some (.rt ⟨n - 0x20, by omega⟩)
  else if h : 0x30 ≤ n ∧ n < 0x49 then some (.af ⟨n - 0x30, by omega⟩)
  else if h : 0x50 ≤ n ∧ n < 0x70 then some (.sched ⟨n - 0x50, by omega⟩)
  else match n with
    | 0x10 => some .pi
    | 0x11 => some .flags
    | 0x12 => some .psLen
    | 0x13 => some (.ps 0)
    | 0x14 => some (.ps 1)
    | 0x15 => some .rtLen
    | 0x16 => some .afCount
    | 0x17 => some .ctCtrl
    | 0x18 => some .ctMjd
    | 0x19 => some .ctTime
    | 0x1A => some .schedLen
    | 0x70 => some .sep
    | 0x71 => some .gain
    | 0x72 => some .rdsLevel
    | 0x73 => some .peSel
    | 0x74 => some .compThr
    | 0x75 => some .compSlope
    | 0x76 => some .compAtt
    | 0x77 => some .compRel
    | 0x78 => some .limCeil
    | 0x79 => some .limRel
    | _ => none

/-- A register outside the two configuration windows, by word index (R72). -/
def plainRegAt (n : Nat) : Option Reg :=
  match n with
  | 0x00 => some .id
  | 0x01 => some .cmd
  | 0x02 => some .status
  | 0x03 => some .err
  | 0x04 => some .errInfo
  | 0x05 => some .irqEn
  | 0x06 => some .mode
  | 0x07 => some .outRate
  | 0x08 => some .bufLen
  | 0x80 => some .monPeak
  | 0x81 => some .monSumsqLo
  | 0x82 => some .monSumsqHi
  | 0x83 => some .monN
  | 0x84 => some .monPkMono
  | 0x85 => some .monPkStereo
  | 0x86 => some .monPkPilot
  | 0x87 => some .monPkRds
  | 0x88 => some .monPilotLvl
  | 0x89 => some .monRdsLvl
  | 0x8A => some .monGc
  | 0x8B => some .monLg
  | 0x8C => some .groupCount
  | 0x8D => some .tickLo
  | 0x8E => some .tickHi
  | 0x8F => some .cursor
  | _ => none

/-- The register at word index `a`, if the word is mapped (R72): the shadow window is words 0x10 to 0x7F, the active window, 0x100
words higher, words 0x110 to 0x17F. -/
def regAt (a : RegIndex) : Option Reg :=
  let n := a.toNat
  if 0x10 ≤ n ∧ n < 0x80 then (confRegAt n).map .shadow
  else if 0x110 ≤ n ∧ n < 0x180 then (confRegAt (n - 0x100)).map .active
  else plainRegAt n

/-! ### Reading -/

/-- One flag as a word's bit 0. -/
def flagWord (b : Bool) : Word := (BitVec.ofBool b).setWidth 32

/-- STATE's code (10_state.md R24). -/
def streamCode : StreamState → Word
  | .idle => 0
  | .streaming => 1

/-- A configuration register's word in one copy: its fields at their positions, 0 elsewhere (R31 to R40, 20_memory.md R77). -/
def readConf (c : Settings) : ConfReg → Word
  | .pi => c.station.pi.setWidth 32
  | .flags => c.station.flags.setWidth 32
  | .psLen => c.station.psLen.setWidth 32
  | .ps i => c.station.ps[i]
  | .rtLen => c.station.rtLen.setWidth 32
  | .afCount => c.station.afCount.setWidth 32
  | .ctCtrl => flagWord c.station.ctValid
  | .ctMjd => c.station.ctMjd.setWidth 32
  | .ctTime =>
      c.station.hour.setWidth 32 ||| (c.station.minute.setWidth 32 <<< 8) ||| (c.station.offMag.setWidth 32 <<< 16) |||
        (flagWord c.station.offSign <<< 21)
  | .schedLen => c.station.schedLen.setWidth 32
  | .rt i => c.station.rt[i]
  | .af i => (c.station.af[i]).setWidth 32
  | .sched i => (c.station.sched[i]).setWidth 32
  | .sep => c.audio.sep.setWidth 32
  | .gain => c.audio.gain.setWidth 32
  | .rdsLevel => c.audio.rdsLevel.setWidth 32
  | .peSel => flagWord c.audio.peSel
  | .compThr => c.audio.compThr.setWidth 32
  | .compSlope => c.audio.compSlope.setWidth 32
  | .compAtt => c.audio.compAtt.setWidth 32
  | .compRel => c.audio.compRel.setWidth 32
  | .limCeil => c.audio.limCeil.setWidth 32
  | .limRel => c.audio.limRel.setWidth 32

/-- STATUS (10_state.md R24, 40_host_operations.md R140). -/
def statusWord (s : State) : Word :=
  streamCode s.pipe.stream ||| (flagWord s.flags.pendRds <<< 3) ||| (flagWord s.flags.pendAud <<< 4) |||
    (flagWord s.flags.cfgValid <<< 5) ||| (flagWord s.flags.rtAb <<< 6) ||| (flagWord s.pipe.liveAct <<< 7)

/-- CURSOR (10_state.md R53, 40_host_operations.md R140). -/
def cursorWord (s : State) : Word :=
  s.cur.schedIdx.setWidth 32 ||| (s.cur.psIdx.setWidth 32 <<< 8) ||| (s.cur.rtIdx.setWidth 32 <<< 12) |||
    (s.cur.afIdx.setWidth 32 <<< 16) ||| (BitVec.ofNat 32 s.modu.bitIdx.val <<< 20)

/-- A register's word (40_host_operations.md R140). CMD is write only and reads 0 (20_memory.md R76). -/
def readReg (s : State) : Reg → Word
  | .id => idValue
  | .cmd => 0
  | .status => statusWord s
  | .err => s.ctl.err.setWidth 32
  | .errInfo => s.ctl.errInfo.setWidth 32
  | .irqEn => s.ctl.irqEn.setWidth 32
  | .mode => flagWord s.ctl.live
  | .outRate => s.ctl.outRate
  | .bufLen => s.ctl.bufLen.setWidth 32
  | .shadow r => readConf s.sh r
  | .monPeak => s.mon.peak.setWidth 32
  | .monSumsqLo => s.mon.sumsq.extractLsb' 0 32
  | .monSumsqHi => s.mon.sumsq.extractLsb' 32 32
  | .monN => s.mon.n
  | .monPkMono => s.mon.pkMono.setWidth 32
  | .monPkStereo => s.mon.pkStereo.setWidth 32
  | .monPkPilot => s.mon.pkPilot.setWidth 32
  | .monPkRds => s.mon.pkRds.setWidth 32
  | .monPilotLvl => s.mon.pilotLvl.setWidth 32
  | .monRdsLvl => s.mon.rdsLvl.setWidth 32
  | .monGc => s.mon.gc.setWidth 32
  | .monLg => s.mon.lg.setWidth 32
  | .groupCount => s.cnt.groupCount
  | .tickLo => s.cnt.tick.extractLsb' 0 32
  | .tickHi => s.cnt.tick.extractLsb' 32 32
  | .cursor => cursorWord s
  | .active r => readConf s.ac r

/-- MemRead of word `a` (40_host_operations.md R140): an unmapped word reads 0 (20_memory.md R75). -/
def memRead (a : RegIndex) (s : State) : Word :=
  match regAt a with
  | some r => readReg s r
  | none => 0

/-! ### Writing -/

/-- A write of one configuration register: each field takes the written bits of its positions, other bits are dropped
(20_memory.md R77, 40_host_operations.md R141). -/
def writeConf (c : Settings) (v : Word) : ConfReg → Settings
  | .pi => { c with station := { c.station with pi := v.setWidth 16 } }
  | .flags => { c with station := { c.station with flags := v.setWidth 12 } }
  | .psLen => { c with station := { c.station with psLen := v.setWidth 4 } }
  | .ps i => { c with station := { c.station with ps := c.station.ps.set i v } }
  | .rtLen => { c with station := { c.station with rtLen := v.setWidth 7 } }
  | .afCount => { c with station := { c.station with afCount := v.setWidth 5 } }
  | .ctCtrl => { c with station := { c.station with ctValid := v.getLsbD 0 } }
  | .ctMjd => { c with station := { c.station with ctMjd := v.setWidth 17 } }
  | .ctTime =>
      { c with station :=
          { c.station with
            hour := v.extractLsb' 0 5, minute := v.extractLsb' 8 6, offMag := v.extractLsb' 16 5, offSign := v.getLsbD 21 } }
  | .schedLen => { c with station := { c.station with schedLen := v.setWidth 6 } }
  | .rt i => { c with station := { c.station with rt := c.station.rt.set i v } }
  | .af i => { c with station := { c.station with af := c.station.af.set i (v.setWidth 11) } }
  | .sched i => { c with station := { c.station with sched := c.station.sched.set i (v.setWidth 2) } }
  | .sep => { c with audio := { c.audio with sep := v.setWidth 16 } }
  | .gain => { c with audio := { c.audio with gain := v.setWidth 16 } }
  | .rdsLevel => { c with audio := { c.audio with rdsLevel := v.setWidth 16 } }
  | .peSel => { c with audio := { c.audio with peSel := v.getLsbD 0 } }
  | .compThr => { c with audio := { c.audio with compThr := v.setWidth 24 } }
  | .compSlope => { c with audio := { c.audio with compSlope := v.setWidth 16 } }
  | .compAtt => { c with audio := { c.audio with compAtt := v.setWidth 16 } }
  | .compRel => { c with audio := { c.audio with compRel := v.setWidth 16 } }
  | .limCeil => { c with audio := { c.audio with limCeil := v.setWidth 24 } }
  | .limRel => { c with audio := { c.audio with limRel := v.setWidth 16 } }

end Sys2Proof.Machine
end

