-- ==== Sys2Proof/Machine/Ops.lean ====
section
/-! DEFINITION. The shared operations: the environment's answers (00_scope.md R9), `raise`, which takes the place of exceptions
(60_exceptions.md R362; there is no saved context and no return, R373), adoption (20_memory.md R82, R83), the two resets
(10_state.md R61, R62) and teardown (46_delivery_pipeline.md R341). -/

namespace Sys2Proof.Machine

/-! ### The environment -/

/-- One free value more has been drawn (log 1). -/
def bumpDraws (s : State) : State := s.setWorld { s.world with draws := s.world.draws + 1 }

/-- The audio source's answer to one request, and the state after it (10_state.md R58): the next listed one, else a free one. -/
def drawAudio (s : State) : Option Frame × State :=
  match s.world.audio with
  | a :: rest => (a, s.setWorld { s.world with audio := rest })
  | [] => (Config.audioAnswer s.world.draws, bumpDraws s)

/-- The sink's answer to one open request, and the state after it (10_state.md R59): the next listed one, else a free one. -/
def drawSink (s : State) : SinkAnswer × State :=
  match s.world.sink with
  | a :: rest => (a, s.setWorld { s.world with sink := rest })
  | [] => (Config.sinkAnswer s.world.draws, bumpDraws s)

/-! ### Ports -/

/-- Pulse `sink_release` (10_state.md R59). -/
def pulseRelease (s : State) : State := s.setOut { s.out with sinkRelease := true }

/-- Put `sink_open(rate, live)` on the port and take the sink's answer (R59, 40_host_operations.md R146). -/
def sinkOpen (rate : Word) (live : Bool) (s : State) : SinkAnswer × State :=
  drawSink (s.setOut { s.out with sinkOpen := some (rate, live) })

/-- Show what an engine row of the opcode table returned (log 3, log 14). -/
def report (r : EngineResult) (s : State) : State := s.setOut { s.out with engine := r }

/-! ### Errors -/

/-- `raise Class(code)` (60_exceptions.md R362): set the class's flag, write the code, and nothing else. -/
def raise (c : ErrorClass) (code : BitVec 8) (s : State) : State :=
  s.setCtl { s.ctl with err := errWith s.ctl.err (errBit c), errInfo := code }

/-! ### Adoption -/

/-- RT_AB after a station adoption: flipped exactly when the 64 padded characters differ (20_memory.md R82). -/
def nextRtAb (s : State) : Bool :=
  if s.pe.station.paddedText = s.ac.station.paddedText then s.flags.rtAb else !s.flags.rtAb

/-- adopt_station() (20_memory.md R82). -/
def adoptStation (s : State) : State :=
  if s.flags.pendRds then
    (s.setFlags { s.flags with rtAb := nextRtAb s, pendRds := false }).setAc { s.ac with station := s.pe.station }
  else s

/-- adopt_audio() (20_memory.md R83). -/
def adoptAudio (s : State) : State :=
  if s.flags.pendAud then
    (s.setFlags { s.flags with pendAud := false }).setAc { s.ac with audio := s.pe.audio }
  else s

/-! ### Resets and teardown -/

/-- The converter after a stream reset: history 0, RS_POS = RS_L, the bank entry kept (10_state.md R61, R62). The reset is made in file mode
too, which 45_rate_converter.md R302 and 40_host_operations.md R146 (d) speak against: the model's choice, DESIGN CHOICE, log 26. -/
def Converter.streamReset (c : Converter) : Converter :=
  { c with hist := Vector.replicate 64 0, pos := BitVec.ofNat 11 c.entry.l.val }

/-- stream_reset() (10_state.md R62): exactly the elements marked "stream" in R61, RS_HIST and RS_POS among them in either mode (log 26). -/
def streamReset (s : State) : State :=
  (((((((s.setCur Cursor.reset).setModu Modulator.reset).setCond Conditioning.reset).setConv s.conv.streamReset).setPipe
    { s.pipe with stopReq := false, bufPos := 0 }).setAcc Accumulators.reset).setMon Monitors.reset).setCnt Counters.reset

/-- Hardware reset (70_reset_and_hazards.md R400): every state element to the value of 10_state.md R61. The parameters are not state
and are not affected (R402); the environment and the ports of this step are not the hardware's to reset (log 22). -/
def hardwareReset (s : State) : State :=
  { State.reset with out := s.out, par := s.par, world := s.world }

/-- teardown() (46_delivery_pipeline.md R341), in its order. -/
def teardown (s : State) : State :=
  adoptAudio (adoptStation (pulseRelease (s.setPipe { s.pipe with stream := .idle, stopReq := false })))

end Sys2Proof.Machine
end

