-- ==== Sys2Proof/Machine/Conditioning.lean ====
section
/-! DEFINITION. The audio conditioning chain (43_audio_conditioning.md R240 to R251). -/

namespace Sys2Proof.Machine

/-- fetch_frame() (43_audio_conditioning.md R241): nothing there is silence and sets AIN_UNDER. -/
def fetchFrame (s : State) : Frame × State :=
  let a := drawAudio s
  match a.1 with
  | some f => (f, a.2)
  | none => (⟨0, 0⟩, setErrFlag ainUnderBit a.2)

/-- One channel of pre_emphasis (R242): K of R243, the input and the previous input. -/
def preEmphasis (k x x1 : Int) : Int := sat24 (x + mulk (x - x1) k)

/-- The envelope of R246, from |M| and the envelope so far. -/
def envelopeNext (a env att rel : Int) : Int :=
  if env < a then env + ((a - env) * att) / 32768 else env - ((env - a) * rel) / 32768

/-- The compressor gain of R247, from the envelope after R246. -/
def compressorGain (env thr slope : Int) : Int :=
  if env ≤ thr then 32768 else ((thr + ((env - thr) * slope) / 32768) * 32768) / env

/-- `need` of the limiter (R249). -/
def limiterNeed (pk ceil : Int) : Int := if ceil < pk then (ceil * 32768) / pk else 32768

/-- LG after the limiter (R249): instant attack, linear recovery. -/
def limiterGain (pk ceil lg rel : Int) : Int := min (limiterNeed pk ceil) (min 32768 (lg + rel))

/-- What the chain makes of one frame: (Mf, Sf), the conditioning state after it, and the values on the way (R240). -/
structure Conditioned where
  yl : Int
  yr : Int
  m : Int
  sd : Int
  mf : Int
  sf : Int
  next : Conditioning
deriving DecidableEq, Repr

/-- conditioning_step() on a fetched frame (R240): pre-emphasis, matrix (R244), separation (R245), compressor (R246 to R248), limiter
(R249), gain (R251). -/
def condition (a : Audio) (c : Conditioning) (f : Frame) : Conditioned :=
  let xl := f.l.toInt
  let xr := f.r.toInt
  let k := peK a.peSel
  let yl := preEmphasis k xl c.x1l.toInt
  let yr := preEmphasis k xr c.x1r.toInt
  let m := (yl + yr) / 2
  let sd := (yl - yr) / 2
  let s1 := mulq15t sd (regInt a.sep)
  let env : BitVec 24 := toReg 24 (envelopeNext m.natAbs (regInt c.env) (regInt a.compAtt) (regInt a.compRel))
  let gc := compressorGain (regInt env) (regInt a.compThr) (regInt a.compSlope)
  let mc := mulq15t m gc
  let sc := mulq15t s1 gc
  let lg := limiterGain (mc.natAbs + sc.natAbs) (regInt a.limCeil) (regInt c.lg) (regInt a.limRel)
  { yl := yl, yr := yr, m := m, sd := sd,
    mf := mulq15t (mulq15t mc lg) (regInt a.gain), sf := mulq15t (mulq15t sc lg) (regInt a.gain),
    next := { x1l := f.l, x1r := f.r, env := env, gc := toReg 16 gc, lg := toReg 16 lg } }

end Sys2Proof.Machine
end

