-- ==== Sys2Proof/Machine/Encoder.lean ====
section
/-! DEFINITION. The RDS group encoder (41_group_encoder.md): the schedule walk, the three group builders, and the meanings of the rows
SLOT_x, GROUP_x, BLOCK, GROUP and NEXT_GROUP. -/

namespace Sys2Proof.Machine

/-- The four information words of a group (30_encoding.md, section 2). -/
structure InfoWords where
  b1 : BitVec 16
  b2 : BitVec 16
  b3 : BitVec 16
  b4 : BitVec 16
deriving DecidableEq, Repr

/-- The group of four information words (41_group_encoder.md R187). -/
def InfoWords.word (w : InfoWords) : GroupWord := assemble w.b1 w.b2 w.b3 w.b4

/-! ### The schedule -/

/-- The guard of select_slot: SCHED_IDX past the end restarts at 0 (R181). -/
def schedGuard (s : State) : State :=
  if s.ac.station.schedLen.toNat ≤ s.cur.schedIdx.toNat then s.setCur { s.cur with schedIdx := 0 } else s

/-- SCHED_IDX <- (SCHED_IDX + 1) mod n (R181); for n = 0, which no COMMIT admits, it is free (log 6). -/
def schedAdvance (s : State) : State :=
  let n := s.ac.station.schedLen.toNat
  if n = 0 then bumpDraws (s.setCur { s.cur with schedIdx := Config.freeSchedIdx s.world.draws })
  else s.setCur { s.cur with schedIdx := BitVec.ofNat 5 ((s.cur.schedIdx.toNat + 1) % n) }

/-- The loop of select_slot (R181), at most `fuel` slots: read the slot, advance, and stop unless it is a 4A slot without a time
source. `none`: every slot was skipped, so the loop of R181 would not end. -/
def walkSchedule : Nat → State → Option (BitVec 2) × State
  | 0, s => (none, s)
  | fuel + 1, s =>
    let e := s.ac.station.slotAt s.cur.schedIdx
    if e = 2 ∧ s.ac.station.ctValid = false then walkSchedule fuel (schedAdvance s)
    else (some e, schedAdvance s)

/-- select_slot() (R181): the slot's code and the state with SCHED_IDX advanced. The index visits all n slots in order. -/
def selectSlot (s : State) : Option (BitVec 2) × State :=
  walkSchedule s.ac.station.schedLen.toNat (schedGuard s)

/-! ### The builders -/

/-- HDR(gt) (30_encoding.md R107). -/
def blockTwoHeader (gt : Nat) (st : Station) : BitVec 16 :=
  (BitVec.ofNat 16 gt <<< 12) ||| ((BitVec.ofBool st.tp).setWidth 16 <<< 10) ||| (st.pty.setWidth 16 <<< 5)

/-- One bit of a 16-bit word, at position `n`. -/
def wordBit (b : Bool) (n : Nat) : BitVec 16 := (BitVec.ofBool b).setWidth 16 <<< n

/-- Two 8-bit codes as one information word, the first in bits [15:8] (30_encoding.md R108, R109). -/
def pairWord (x y : Byte) : BitVec 16 := x ++ y

/-- The information words of group 0A with PS segment `seg` and AF pair `a` (30_encoding.md R106 to R108). -/
def words0A (st : Station) (seg : BitVec 2) (a : Nat) : InfoWords where
  b1 := st.pi
  b2 := blockTwoHeader 0 st ||| wordBit st.ta 4 ||| wordBit st.ms 3 ||| wordBit (st.di (3 - seg.toNat)) 2 |||
    seg.setWidth 16
  b3 := pairWord (st.codeList.getD (2 * a) 0) (st.codeList.getD (2 * a + 1) 0)
  b4 := pairWord (st.psp ⟨2 * seg.toNat, by have := seg.isLt; omega⟩) (st.psp ⟨2 * seg.toNat + 1, by have := seg.isLt; omega⟩)

/-- The information words of group 2A with text flag `ab` and segment `i` (30_encoding.md R109). -/
def words2A (st : Station) (ab : Bool) (i : BitVec 4) : InfoWords where
  b1 := st.pi
  b2 := blockTwoHeader 2 st ||| wordBit ab 4 ||| i.setWidth 16
  b3 := pairWord (st.rtp ⟨4 * i.toNat, by have := i.isLt; omega⟩) (st.rtp ⟨4 * i.toNat + 1, by have := i.isLt; omega⟩)
  b4 := pairWord (st.rtp ⟨4 * i.toNat + 2, by have := i.isLt; omega⟩) (st.rtp ⟨4 * i.toNat + 3, by have := i.isLt; omega⟩)

/-- The information words of group 4A (30_encoding.md R110). -/
def words4A (st : Station) : InfoWords where
  b1 := st.pi
  b2 := blockTwoHeader 4 st ||| (st.ctMjd.extractLsb' 15 2).setWidth 16
  b3 := ((st.ctMjd.extractLsb' 0 15).setWidth 16 <<< 1) ||| wordBit (st.hour.getLsbD 4) 0
  b4 := ((st.hour.extractLsb' 0 4).setWidth 16 <<< 12) ||| (st.minute.setWidth 16 <<< 6) ||| wordBit st.offSign 5 |||
    st.offMag.setWidth 16

/-- The AF_IDX guard (41_group_encoder.md R183). -/
def afGuard (s : State) : State :=
  if s.ac.station.nPairs ≤ s.cur.afIdx.toNat then s.setCur { s.cur with afIdx := 0 } else s

/-- build_0A() (R184): the group and the state with PS_IDX and AF_IDX advanced. -/
def build0A (s : State) : GroupWord × State :=
  let s0 := afGuard s
  ((words0A s0.ac.station s0.cur.psIdx s0.cur.afIdx.toNat).word,
    s0.setCur { s0.cur with
      psIdx := s0.cur.psIdx + 1,
      afIdx := BitVec.ofNat 4 ((s0.cur.afIdx.toNat + 1) % s0.ac.station.nPairs) })

/-- build_2A() (R185): the group and the state with RT_IDX advanced. -/
def build2A (s : State) : GroupWord × State :=
  ((words2A s.ac.station s.flags.rtAb s.cur.rtIdx).word, s.setCur { s.cur with rtIdx := s.cur.rtIdx + 1 })

/-- build_4A() (R186): the group; the cursor is not touched. -/
def build4A (s : State) : GroupWord × State := ((words4A s.ac.station).word, s)

/-- The group a schedule slot selects (R180); code 3, which no COMMIT admits, gives a free group (log 6). -/
def buildSlot (code : BitVec 2) (s : State) : GroupWord × State :=
  if code = 0 then build0A s
  else if code = 1 then build2A s
  else if code = 2 then build4A s
  else (Config.freeGroup s.world.draws, bumpDraws s)

/-- next_group() (R180). A schedule whose walk would not end, which no COMMIT admits, gives a free group and a free SCHED_IDX
(log 6). -/
def nextGroup (s : State) : GroupWord × State :=
  let r := selectSlot s
  match r.1 with
  | some code => buildSlot code r.2
  | none =>
    (Config.freeGroup r.2.world.draws,
      bumpDraws (r.2.setCur { r.2.cur with schedIdx := Config.freeSchedIdx r.2.world.draws }))

/-! ### Meanings -/

/-- Run one slot of the schedule with code `code`: the walk's guard and advance (R181), then the group it selects (log 12). -/
def runSlot (code : BitVec 2) (s : State) : GroupWord × State := buildSlot code (schedAdvance (schedGuard s))

/-- SLOT_0A (30_encoding.md R112, 41_group_encoder.md R181, R184). -/
def execSlot0A (s : State) : Host.Outcome State Fault Refusal :=
  let r := runSlot 0 s
  .next (report (.group r.1) r.2)

/-- SLOT_2A (R112, R181, R185). -/
def execSlot2A (s : State) : Host.Outcome State Fault Refusal :=
  let r := runSlot 1 s
  .next (report (.group r.1) r.2)

/-- SLOT_4A (R112, R181, R186): with CT_VALID = 0 the slot is skipped without error, and only SCHED_IDX moves. -/
def execSlot4A (s : State) : Host.Outcome State Fault Refusal :=
  if s.ac.station.ctValid then
    let r := runSlot 2 s
    .next (report (.group r.1) r.2)
  else .next (report .skipped (schedAdvance (schedGuard s)))

/-- SLOT_RESERVED (R112, R181 (e)): the walk's turn on code 3, which no active schedule holds; it raises nothing (R180,
60_exceptions.md R361), SCHED_IDX advances and the group is free (log 6, log 13). -/
def execSlotReserved (s : State) : Host.Outcome State Fault Refusal :=
  let r := runSlot 3 s
  .next (report (.group r.1) r.2)

/-- GROUP_0A (R184): the builder runs; the fields of the B2 word are what it emits, computed from AC and the cursor (log 10). -/
def execGroup0A (_tp : Bool) (_pty : BitVec 5) (_ta _ms _di : Bool) (_seg : BitVec 2) (s : State) :
    Host.Outcome State Fault Refusal :=
  let r := build0A s
  .next (report (.group r.1) r.2)

/-- GROUP_2A (R185; log 10). -/
def execGroup2A (_tp : Bool) (_pty : BitVec 5) (_ab : Bool) (_seg : BitVec 4) (s : State) :
    Host.Outcome State Fault Refusal :=
  let r := build2A s
  .next (report (.group r.1) r.2)

/-- GROUP_4A (R186; log 10). In a stream build_4A is reached only with CT_VALID = 1 (R181); the row run alone builds the group from the
registers as they stand with CT_VALID = 0 too: the model's choice, DESIGN CHOICE, log 27. -/
def execGroup4A (_tp : Bool) (_pty : BitVec 5) (_mjdHi : BitVec 2) (s : State) : Host.Outcome State Fault Refusal :=
  let r := build4A s
  .next (report (.group r.1) r.2)

/-- BLOCK (30_encoding.md R103, R113 (5)): a layout, it selects nothing; the machine is left as it is and the block's syndrome
(41_group_encoder.md R174) is shown (log 11). -/
def execBlock (info : BitVec 16) (check : BitVec 10) (s : State) : Host.Outcome State Fault Refusal :=
  .next (report (.syndromes [syndrome (info ++ check)]) s)

/-- GROUP (30_encoding.md R104, R113 (5)): a layout, it selects nothing; the four syndromes are shown (log 11). -/
def execGroup (b1 b2 b3 b4 : BlockWord) (s : State) : Host.Outcome State Fault Refusal :=
  .next (report (.syndromes [syndrome b1, syndrome b2, syndrome b3, syndrome b4]) s)

/-- NEXT_GROUP (41_group_encoder.md R180; the row run alone: log 3). -/
def execNextGroup (s : State) : Host.Outcome State Fault Refusal :=
  let r := nextGroup s
  .next (report (.group r.1) r.2)

end Sys2Proof.Machine
end

