-- ==== Sys2Proof/Machine/Modulator.lean ====
section
/-! DEFINITION. The subcarrier modulator (42_subcarrier_modulator.md) and the meaning of the row BIT. -/

namespace Sys2Proof.Machine

/-- A symbol sign as an integer (10_state.md R46). -/
def Sign.toInt : Sign → Int
  | .minus => -1
  | .zero => 0
  | .plus => 1

/-- SHAPE_H[k], 0 outside 0 .. 479 (42_subcarrier_modulator.md R220). -/
def shapeAt (h : List (BitVec 16)) (k : Nat) : Int := if k < 480 then (h.getD k 0).toInt else 0

/-- W[n] = SHAPE_H[n] - SHAPE_H[n - 96] (R221). -/
def waveAt (h : List (BitVec 16)) (n : Nat) : Int := shapeAt h n - (if n < 96 then 0 else shapeAt h (n - 96))

/-- group_boundary() (R213): adoption first, then the group, then the count. -/
def groupBoundary (s : State) : State :=
  let r := nextGroup (adoptStation s)
  (r.2.setModu { r.2.modu with groupSr := r.1 }).setCnt { r.2.cnt with groupCount := r.2.cnt.groupCount + 1 }

/-- The bit of GROUPSR that BITIDX names, counted in sending order (R212, 30_encoding.md R104). -/
def sourceBit (m : Modulator) : Bool := m.groupSr.getLsbD (103 - m.bitIdx.val)

/-- The rest of bit_step (R212): differential coding (R214), the symbol shift (R215), BITIDX. -/
def shiftBit (m : Modulator) : Modulator :=
  let d := xor m.dprev (sourceBit m)
  { m with dprev := d, sym2 := m.sym1, sym1 := m.sym0, sym0 := if d then .plus else .minus, bitIdx := m.bitIdx + 1 }

/-- bit_step() (R212). -/
def bitStep (s : State) : State :=
  let s1 := if s.modu.bitIdx = 0 then groupBoundary s else s
  s1.setModu (shiftBit s1.modu)

/-- shaped_sum() (R224). -/
def shapedSum (h : List (BitVec 16)) (m : Modulator) : Int :=
  m.sym0.toInt * waveAt h m.bitPh.val + m.sym1.toInt * waveAt h (192 + m.bitPh.val) +
    m.sym2.toInt * waveAt h (384 + m.bitPh.val)

/-- The BPSK multiply (R225): the subcarrier sample of this tick. -/
def rdsSample (s : State) : Int := c57 s.modu.phase * shapedSum s.par.shapeH s.modu

/-- The state part of modulator_step() (R211); its value is `rdsSample` of the state after it. -/
def modulatorStep (s : State) : State := if s.modu.bitPh = 0 then bitStep s else s

/-- BIT (R212; the row run alone: log 3). -/
def execBit (s : State) : Host.Outcome State Fault Refusal := .next (bitStep s)

end Sys2Proof.Machine
end

