-- ==== Sys2Proof/Machine/Composer.lean ====
section
/-! DEFINITION. The multiplex composer, the monitors and the TICK step (44_multiplex_composer.md). -/

namespace Sys2Proof.Machine

/-- The four contributions and their sum before saturation (44_multiplex_composer.md R273). -/
structure Contributions where
  mono : Int
  stereo : Int
  pilot : Int
  rds : Int
deriving DecidableEq, Repr

/-- The contributions of one tick (R273): carriers of R271, gains of R272. -/
def contributions (p : Fin 12) (rdsLevel : Coef) (mf sf rds : Int) : Contributions where
  mono := mulq15t mf gAudio
  stereo := mulq15t (mulq15t sf (sub38 p)) gAudio
  pilot := mulq15t (t12 p * 256) gPilot
  rds := mulq15t (rds * 256) (regInt rdsLevel)

/-- s = mono_c + st_c + pilot_c + rds_c (R273). -/
def Contributions.sum (c : Contributions) : Int := c.mono + c.stereo + c.pilot + c.rds

/-- comp = sat24(s) (R273, R282). -/
def Contributions.comp (c : Contributions) : Int := sat24 c.sum

/-- CLIP is set if the saturation changed the sum (R282). -/
def clipCheck (c : Contributions) (s : State) : State := if c.comp = c.sum then s else setErrFlag clipBit s

/-- A running maximum of absolute values, in a register of 24 bits (R288). -/
def peakWith (r : BitVec 24) (v : Int) : BitVec 24 := BitVec.ofNat 24 (max r.toNat v.natAbs)

/-- The accumulation of R288. -/
def accumulate (c : Contributions) (a : Accumulators) : Accumulators where
  peak := peakWith a.peak c.comp
  pkMono := peakWith a.pkMono c.mono
  pkStereo := peakWith a.pkStereo c.stereo
  pkPilot := peakWith a.pkPilot c.pilot
  pkRds := peakWith a.pkRds c.rds
  sumsq := a.sumsq + BitVec.ofInt 64 (c.comp * c.comp)
  n := a.n + 1

/-- The counters of R291, last in a tick. -/
def advanceCounters (s : State) : State :=
  (s.setModu { s.modu with phase := s.modu.phase + 1, bitPh := s.modu.bitPh + 1 }).setCnt
    { s.cnt with tick := s.cnt.tick + 1 }

/-- The state of a tick after adoption and modulator (R290, first two lines). -/
def tickFront (s : State) : State := modulatorStep (adoptAudio s)

/-- What the conditioning chain makes of this tick's frame (R290, third line). -/
def tickAudio (s : State) : Conditioned :=
  let f := fetchFrame (tickFront s)
  condition f.2.ac.audio f.2.cond f.1

/-- The contributions of this tick (R290, fourth line). -/
def tickParts (s : State) : Contributions :=
  let s1 := tickFront s
  contributions s1.modu.phase s1.ac.audio.rdsLevel (tickAudio s).mf (tickAudio s).sf (rdsSample s1)

/-- tick() (R290): the composite sample and the state after it. -/
def tick (s : State) : Int × State :=
  let f := fetchFrame (tickFront s)
  let c := tickParts s
  let s2 := clipCheck c (f.2.setCond (tickAudio s).next)
  (c.comp, advanceCounters (s2.setAcc (accumulate c s2.acc)))

/-- A row whose result is a sample: `run` makes its step and the sample is shown (log 3). -/
def sampleRow (run : State → Int × State) (s : State) : State :=
  let r := run s
  report (.sample (toSample r.1)) r.2

/-- TICK (R290): a tick runs only when STATE = STREAMING, so in IDLE the row leaves the state as it is. The row run alone: log 3. -/
def execTick (s : State) : Host.Outcome State Fault Refusal :=
  .next (if s.pipe.stream = .streaming then sampleRow tick s else s)

end Sys2Proof.Machine
end

