-- ==== Sys2Proof/Machine/RateConverter.lean ====
section
/-! DEFINITION. The rate converter (45_rate_converter.md R300 to R304) and the meaning of the row RS_OUT. -/

namespace Sys2Proof.Machine

/-- RS_HIST after one input: the first RS_T entries shift, entry 0 is the input (45_rate_converter.md R304). -/
def pushHist (h : Vector Sample 64) (t : Nat) (x : Sample) : Vector Sample 64 :=
  Vector.ofFn fun i => if i.val = 0 then x else if i.val < t then h[i.val - 1] else h[i]

/-- One turn of the loop of rs_out (R304): a tick, the shift, RS_POS less RS_L. -/
def rsInput (s : State) : State :=
  let r := tick s
  let c := r.2.conv
  r.2.setConv { c with
    hist := pushHist c.hist c.entry.t.val (toSample r.1), pos := BitVec.ofNat 11 (c.pos.toNat - c.entry.l.val) }

/-- The loop of rs_out (R304): while RS_POS >= RS_L. `fuel` bounds the turns; RS_POS turns always suffice, since RS_L is at least 1. -/
def rsPull : Nat → State → State
  | 0, s => s
  | fuel + 1, s => if s.conv.entry.l.val ≤ s.conv.pos.toNat then rsPull fuel (rsInput s) else s

/-- RS_COEF[i]; beyond the table the value is free (R301; log 8). -/
def coefAt (e : BankEntry) (i : Nat) : Int :=
  if h : i < e.coef.length then e.coef[i].toInt else (Config.absentCoef i).toInt

/-- The dot product of R304 over taps `n` .. RS_T - 1 counted down from RS_T, for phase `p`. -/
def dotFrom (e : BankEntry) (h : Vector Sample 64) (p : Nat) : Nat → Int
  | 0 => 0
  | k + 1 => dotFrom e h p k + coefAt e (p + k * e.l.val) * (h.toList.getD k 0).toInt

/-- rs_out() (R304): the output sample and the state after it. -/
def rsOut (s : State) : Int × State :=
  let s1 := rsPull s.conv.pos.toNat s
  let c := s1.conv
  (sat24 (rnd15 (dotFrom c.entry c.hist c.pos.toNat c.entry.t.val)),
    s1.setConv { c with pos := BitVec.ofNat 11 (c.pos.toNat + c.entry.m) })

/-- RS_OUT (R304): rs_out runs while a live stream runs, for its ticks ask for STREAMING (44_multiplex_composer.md R290) and in file mode
the converter does not run (R302); otherwise the row leaves the state as it is. The row run alone: log 3. -/
def execRsOut (s : State) : Host.Outcome State Fault Refusal :=
  .next (if s.pipe.stream = .streaming ∧ s.pipe.liveAct = true then sampleRow rsOut s else s)

end Sys2Proof.Machine
end

