-- ==== Sys2Proof/Machine/Delivery.lean ====
section
/-! DEFINITION. The delivery pipeline (46_delivery_pipeline.md) and the meanings of the rows SINK_TAKE and SINK_FAIL. -/

namespace Sys2Proof.Machine

/-- The monitor registers latched at a buffer's end (46_delivery_pipeline.md R339). -/
def latchMonitors (s : State) : Monitors where
  peak := s.acc.peak
  sumsq := s.acc.sumsq
  n := s.acc.n
  pkMono := s.acc.pkMono
  pkStereo := s.acc.pkStereo
  pkPilot := s.acc.pkPilot
  pkRds := s.acc.pkRds
  pilotLvl := toReg 16 gPilot
  rdsLvl := s.ac.audio.rdsLevel
  gc := s.cond.gc
  lg := s.cond.lg

/-- buffer_complete() (R339). -/
def bufferComplete (s : State) : State :=
  let s1 := ((s.setPipe { s.pipe with bufPos := 0 }).setMon (latchMonitors s)).setAcc Accumulators.reset
  if s1.pipe.stopReq then teardown s1 else s1

/-- BUF_POS <- BUF_POS + 1, and the buffer's completion if that fills it (R336). -/
def countTake (s : State) : State :=
  let s1 := s.setPipe { s.pipe with bufPos := s.pipe.bufPos + 1 }
  if s1.pipe.bufPos = s1.pipe.bufLenAct then bufferComplete s1 else s1

/-- sink_take() (R336, R337): (OUT_Q, OUT_F32) as the port carries them, and the state after it. -/
def sinkTake (s : State) : (Sample × Word) × State :=
  match s.pipe.stream with
  | .idle => ((0, 0), s)
  | .streaming =>
    if s.pipe.liveAct then
      let r := rsOut s
      ((toSample r.1, f32OfQ r.1), countTake r.2)
    else
      let r := tick s
      ((toSample r.1, fileWord s.par.fileScale r.1), countTake r.2)

/-- sink_fail() (R342): teardown first, then SinkError 18; in IDLE nothing. -/
def sinkFail (s : State) : State :=
  match s.pipe.stream with
  | .idle => s
  | .streaming => raise .sink 18 (teardown s)

/-- SINK_TAKE (R336): the sample is what the sink port carries. -/
def execSinkTake (s : State) : Host.Outcome State Fault Refusal :=
  let r := sinkTake s
  .next (r.2.setOut { r.2.out with sample := some r.1 })

/-- SINK_FAIL (R342). -/
def execSinkFail (s : State) : Host.Outcome State Fault Refusal := .next (sinkFail s)

end Sys2Proof.Machine
end

