-- ==== Sys2Proof/Machine/HostOps.lean ====
section
/-! DEFINITION. The host operations (40_host_operations.md): RD, WR and the commands. -/

namespace Sys2Proof.Machine

/-! ### COMMIT -/

/-- The AF entries in use are in range (40_host_operations.md R143, order 4). -/
def afInRange (st : Station) : Bool :=
  (List.range st.afCount.toNat).all fun i => decide (876 ≤ (st.afEntry i).toNat ∧ (st.afEntry i).toNat ≤ 1079)

/-- The codes of the slots in use (R143, order 5). -/
def slotsInUse (st : Station) : List (BitVec 2) := st.sched.toList.take st.schedLen.toNat

/-- The schedule is legal (R143, order 5). -/
def schedLegal (st : Station) : Bool :=
  decide (st.schedLen.toNat ≠ 0) && decide (st.schedLen.toNat ≤ 32) && (slotsInUse st).all (fun c => decide (c ≠ 3)) &&
    (slotsInUse st).any (fun c => decide (c ≠ 2))

/-- The Clock-Time is legal (R143, order 6). -/
def ctLegal (st : Station) : Bool := !st.ctValid || (decide (st.hour.toNat ≤ 23) && decide (st.minute.toNat ≤ 59))

/-- A Q15 value is 1 .. 32768. -/
def q15Positive (c : Coef) : Bool := decide (1 ≤ c.toNat) && decide (c.toNat ≤ 32768)

/-- The audio half is in range (R143, order 7). -/
def audioLegal (a : Audio) : Bool :=
  decide (a.sep.toNat ≤ 32768) && decide (a.gain.toNat ≤ 32768) && decide (a.rdsLevel.toNat ≤ rdsLevelMax) &&
    decide (a.compSlope.toNat ≤ 32768) && q15Positive a.compAtt && q15Positive a.compRel && q15Positive a.limRel &&
    decide (a.compThr.toNat ≤ 0x800000) && decide (a.limCeil.toNat ≤ 0x7FFFFF)

/-- PI is legal (R143, order 1). -/
def piLegal (reserved : List (BitVec 16)) (pi : BitVec 16) : Bool := decide (pi ≠ 0) && !reserved.contains pi

/-- validate(SH) (R143): the code of the first check that fails, 0 if none does. -/
def validate (par : Params) (c : Settings) : BitVec 8 :=
  if piLegal par.piReserved c.station.pi = false then 1
  else if 64 < c.station.rtLen.toNat then 2
  else if afMax < c.station.afCount.toNat then 4
  else if afInRange c.station = false then 3
  else if schedLegal c.station = false then 5
  else if ctLegal c.station = false then 6
  else if audioLegal c.audio = false then 7
  else 0

/-- The snapshot of a COMMIT that passed: PE <- SH and the three flags (R142). -/
def snapshot (s : State) : State :=
  (s.setPe s.sh).setFlags { s.flags with pendRds := true, pendAud := true, cfgValid := true }

/-- COMMIT (R142). -/
def commit (s : State) : State :=
  let c := validate s.par s.sh
  if c = 0 then
    match s.pipe.stream with
    | .idle => adoptAudio (adoptStation (snapshot s))
    | .streaming => snapshot s
  else raise .configuration c s

/-! ### START -/

/-- RS_BANK[rate], if the rate is a key (45_rate_converter.md R301). -/
def bankLookup (par : Params) (rate : Word) : Option BankEntry := par.rsBank.lookup rate

/-- The class and code of START's first failing internal check, in its order (40_host_operations.md R146 to R149). -/
def startRefusal (s : State) : Option (ErrorClass × BitVec 8) :=
  if s.pipe.stream ≠ .idle then some (.startBusy, 48)
  else if s.flags.cfgValid = false then some (.configuration, 8)
  else if s.ctl.bufLen.toNat = 0 ∨ bufMax < s.ctl.bufLen.toNat then some (.configuration, 7)
  else if s.ctl.live = true ∧ bankLookup s.par s.ctl.outRate = none then some (.rateConversion, 32)
  else none

/-- The bank entry START latches: the rate's in live mode, the one already there in file mode (R146 (d); log 26). -/
def latchedEntry (s : State) : BankEntry :=
  if s.ctl.live then (bankLookup s.par s.ctl.outRate).getD s.conv.entry else s.conv.entry

/-- START after the sink answered OK (R146): stream reset, latches, RS_POS <- RS_L, STATE <- STREAMING. In file mode the stream reset still
clears RS_HIST and sets RS_POS to the RS_L in place, and RS_L, RS_M, RS_T, RS_COEF stay: the model's choice between R146's unconditional
stream_reset() and R146 (d), 45_rate_converter.md R302 (DESIGN CHOICE, log 26). -/
def beginStream (s : State) : State :=
  let s1 := streamReset s
  let s2 := s1.setPipe { s1.pipe with liveAct := s1.ctl.live, bufLenAct := s1.ctl.bufLen, stream := .streaming }
  s2.setConv { s2.conv with entry := latchedEntry s, pos := BitVec.ofNat 11 (latchedEntry s).l.val }

/-- The rate START offers the sink: OUT_RATE on the live path, FS_INT on the file path (R146). -/
def offeredRate (s : State) : Word := if s.ctl.live then s.ctl.outRate else fsInt

/-- START (R146). -/
def start (s : State) : State :=
  match startRefusal s with
  | some e => raise e.1 e.2 s
  | none =>
    let r := sinkOpen (offeredRate s) s.ctl.live s
    match r.1 with
    | .ok => beginStream r.2
    | .unavailable => raise .sink 16 r.2
    | .unsupported => raise .sink 17 r.2

/-! ### STOP, SOFT_RESET, the reserved opcodes -/

/-- STOP (R150). -/
def stop (s : State) : State :=
  match s.pipe.stream with
  | .idle => s
  | .streaming => if s.pipe.bufPos = 0 then teardown s else s.setPipe { s.pipe with stopReq := true }

/-- SOFT_RESET (R151): a release pulse if a stream ran, then the hardware reset. -/
def softReset (s : State) : State :=
  match s.pipe.stream with
  | .idle => hardwareReset s
  | .streaming => hardwareReset (pulseRelease s)

/-- A reserved opcode (R152). -/
def badCommand (s : State) : State := raise .badCommand 49 s

/-- do_command(op) (R145). -/
def doCommand (op : BitVec 8) (s : State) : State :=
  if op = 0 then s
  else if op = 1 then commit s
  else if op = 2 then start s
  else if op = 3 then stop s
  else if op = 4 then softReset s
  else badCommand s

/-! ### Register access -/

/-- A write of a register (40_host_operations.md R141, 20_memory.md R75 to R78). -/
def writeReg (v : Word) (s : State) : Reg → State
  | .cmd => doCommand (v.setWidth 8) s
  | .err => clearErr v s
  | .irqEn => s.setCtl { s.ctl with irqEn := v.setWidth 7 }
  | .mode => s.setCtl { s.ctl with live := v.getLsbD 0 }
  | .outRate => s.setCtl { s.ctl with outRate := v }
  | .bufLen => s.setCtl { s.ctl with bufLen := v.setWidth 13 }
  | .shadow r => s.setSh (writeConf s.sh v r)
  | .id | .status | .errInfo | .active _ => s
  | .monPeak | .monSumsqLo | .monSumsqHi | .monN | .monPkMono | .monPkStereo | .monPkPilot | .monPkRds => s
  | .monPilotLvl | .monRdsLvl | .monGc | .monLg | .groupCount | .tickLo | .tickHi | .cursor => s

/-- MemWrite of word `a` (R141): an unmapped word ignores it (20_memory.md R75). -/
def memWrite (a : RegIndex) (v : Word) (s : State) : State :=
  match regAt a with
  | some r => writeReg v s r
  | none => s

/-! ### Meanings -/

/-- RD (R140): rdata carries the word; nothing else changes. wdata is ignored (30_encoding.md R101). -/
def execRd (a : RegIndex) (_wdata : Word) (s : State) : Host.Outcome State Fault Refusal :=
  .next (s.setOut { s.out with rdata := some (memRead a s) })

/-- WR (R141). -/
def execWr (a : RegIndex) (wdata : Word) (s : State) : Host.Outcome State Fault Refusal := .next (memWrite a wdata s)

/-- NOP (R144). -/
def execNop (_ignored : BitVec 24) (s : State) : Host.Outcome State Fault Refusal := .next s

/-- COMMIT (R142). -/
def execCommit (_ignored : BitVec 24) (s : State) : Host.Outcome State Fault Refusal := .next (commit s)

/-- START (R146). -/
def execStart (_ignored : BitVec 24) (s : State) : Host.Outcome State Fault Refusal := .next (start s)

/-- STOP (R150). -/
def execStop (_ignored : BitVec 24) (s : State) : Host.Outcome State Fault Refusal := .next (stop s)

/-- SOFT_RESET (R151). -/
def execSoftReset (_ignored : BitVec 24) (s : State) : Host.Outcome State Fault Refusal := .next (softReset s)

/-- CMD_RESERVED (R152). -/
def execCmdReserved (_opcode : BitVec 8) (_ignored : BitVec 24) (s : State) : Host.Outcome State Fault Refusal :=
  .next (badCommand s)

/-- HW_RESET (70_reset_and_hazards.md R400): the `rst` port gives no release pulse. -/
def execHwReset (s : State) : Host.Outcome State Fault Refusal := .next (hardwareReset s)

end Sys2Proof.Machine
end

