-- ==== Sys2Proof/Machine/Dispatch.lean ====
section
/-! DEFINITION. The dispatch: one arm per constructor of Instr. -/

namespace Sys2Proof.Machine

def exec (i : Instr) (s : State) : Host.Outcome State Fault Refusal :=
  match i with
  | .rd a wdata => Sys2Proof.Machine.execRd a wdata s
  | .wr a wdata => Sys2Proof.Machine.execWr a wdata s
  | .nop ignored => Sys2Proof.Machine.execNop ignored s
  | .commit ignored => Sys2Proof.Machine.execCommit ignored s
  | .start ignored => Sys2Proof.Machine.execStart ignored s
  | .stop ignored => Sys2Proof.Machine.execStop ignored s
  | .softReset ignored => Sys2Proof.Machine.execSoftReset ignored s
  | .cmdReserved opcode ignored => Sys2Proof.Machine.execCmdReserved opcode ignored s
  | .slot0A => Sys2Proof.Machine.execSlot0A s
  | .slot2A => Sys2Proof.Machine.execSlot2A s
  | .slot4A => Sys2Proof.Machine.execSlot4A s
  | .slotReserved => Sys2Proof.Machine.execSlotReserved s
  | .group0A tp pty ta ms di seg => Sys2Proof.Machine.execGroup0A tp pty ta ms di seg s
  | .group2A tp pty ab seg => Sys2Proof.Machine.execGroup2A tp pty ab seg s
  | .group4A tp pty mjdHi => Sys2Proof.Machine.execGroup4A tp pty mjdHi s
  | .block info check => Sys2Proof.Machine.execBlock info check s
  | .group b1 b2 b3 b4 => Sys2Proof.Machine.execGroup b1 b2 b3 b4 s
  | .tick => Sys2Proof.Machine.execTick s
  | .bit => Sys2Proof.Machine.execBit s
  | .nextGroup => Sys2Proof.Machine.execNextGroup s
  | .rsOut => Sys2Proof.Machine.execRsOut s
  | .sinkTake => Sys2Proof.Machine.execSinkTake s
  | .sinkFail => Sys2Proof.Machine.execSinkFail s
  | .hwReset => Sys2Proof.Machine.execHwReset s

end Sys2Proof.Machine
end

