-- ==== Sys2Proof/Machine/Fetch.lean ====
section
/-! DEFINITION. Where a step's request comes from (00_scope.md R9, R16; log 1, log 2): the environment's script, and where it is empty
the free environment. Both make steps of the four kinds of R16 only, so TICK and the other engine rows are no steps of the hardware
(44_multiplex_composer.md R290). One row put before the machine from outside goes first; no run from reset holds one (log 3). -/

namespace Sys2Proof.Machine

/-- The next request, and the state with it taken and all ports quiet. -/
def takeRequest (s : State) : Request × State :=
  match s.world.row with
  | some r => (r, (s.setWorld { s.world with row := none }).setOut Outputs.quiet)
  | none =>
    match s.world.script with
    | a :: rest => (requestOfAgent a, (s.setWorld { s.world with script := rest }).setOut Outputs.quiet)
    | [] => (requestOfAgent (Config.agentStep s.world.draws), (bumpDraws s).setOut Outputs.quiet)

/-- The state with the row `r` put before the machine, to be run alone by the next step (log 2, log 3). -/
def placeRow (r : Request) (s : State) : State := s.setWorld { s.world with row := some r }

/-- The state with the table's word put before the machine (log 2, log 15). -/
def placeTableWord (nbits w : Nat) (s : State) : State :=
  match requestOfTableWord nbits w with
  | some r => placeRow r s
  | none => s

end Sys2Proof.Machine
end

