-- ==== Sys2Proof/Machine/Step.lean ====
section
/-! DEFINITION. One step: take the next request, decode it, run it (00_scope.md R16, 20_memory.md R85). -/

namespace Sys2Proof.Machine

/-- One atomic step of the machine. With no row put before it, as in every run from reset, it is a step of one of the four kinds of
00_scope.md R16, and a tick happens inside a sink take only (44_multiplex_composer.md R290). -/
def step (s : State) : Host.Outcome State Fault Refusal :=
  let r := takeRequest s
  match decode r.1 with
  | some i => exec i r.2
  | none => .refused .undecodable

/-- `s` with the table's word put where `step` takes its next instruction from (log 2, log 3). -/
def State.withFetchWord (s : State) (nbits w : Nat) : State := placeTableWord nbits w s

end Sys2Proof.Machine
end

