-- ==== Sys2Proof/Safety.lean ====
section
/-! DEFINITION. The terms claims are stated in: what a conforming instantiation is (00_scope.md R8), what a legal configuration is
(40_host_operations.md R143), the invariant of the machine, and runs of sink takes. -/

namespace Sys2Proof.Machine

/-! ### Conforming instantiations -/

/-- A bank entry conforms for the rate `rate` (00_scope.md R8, 45_rate_converter.md R301); the last clause is what RS_POS's 11 bits
ask for (10_state.md R49, 45_rate_converter.md R303; log 9). -/
structure EntryOk (rate : Word) (e : BankEntry) : Prop where
  ratio : rate.toNat * e.m = 228000 * e.l.val
  coprime : Nat.gcd e.l.val e.m = 1
  lowers : e.l.val < e.m
  taps : 1 ≤ e.t.val
  table : e.coef.length = e.l.val * e.t.val
  fits : e.l.val + e.m ≤ 2048

/-- OVL(p) (42_subcarrier_modulator.md R222). -/
def overlap (h : List (BitVec 16)) (p : Nat) : Nat :=
  (waveAt h p).natAbs + (waveAt h (192 + p)).natAbs + (waveAt h (384 + p)).natAbs

/-- SHAPE_H conforms: 480 entries, symmetric, OVL(p) <= 32767 (00_scope.md R8, 42_subcarrier_modulator.md R220, R222). -/
structure ShapeOk (h : List (BitVec 16)) : Prop where
  size : h.length = 480
  symmetric : ∀ k, k < 480 → shapeAt h k = shapeAt h (479 - k)
  bounded : ∀ p, p < 192 → overlap h p ≤ 32767

/-- The open parameters conform (00_scope.md R8). FILE_SCALE(0) = 0 holds by the definition of `fileWord`. -/
structure ParamsOk (p : Params) : Prop where
  pi : 0x1234#16 ∉ p.piReserved
  shape : ShapeOk p.shapeH
  bank : ∀ x, x ∈ p.rsBank → EntryOk x.1 x.2

/-! ### Legal configurations, in the terms of 40_host_operations.md R143 -/

/-- Order 1: PI = 0x0000 or PI in PI_RESERVED. -/
def PiBad (par : Params) (c : Settings) : Prop := c.station.pi = 0 ∨ c.station.pi ∈ par.piReserved

/-- Order 2: RT_LEN > 64. -/
def TextBad (c : Settings) : Prop := 64 < c.station.rtLen.toNat

/-- Order 3: AF_COUNT > 25. -/
def AfCountBad (c : Settings) : Prop := 25 < c.station.afCount.toNat

/-- Order 4: some i < AF_COUNT has AFi < 876 or AFi > 1079. -/
def AfBad (c : Settings) : Prop :=
  ∃ i : Fin 25, i.val < c.station.afCount.toNat ∧ (c.station.af[i].toNat < 876 ∨ 1079 < c.station.af[i].toNat)

/-- Order 5: SCHED_LEN = 0 or > 32, or a used slot is 3, or every used slot is 2. -/
def SchedBad (c : Settings) : Prop :=
  c.station.schedLen.toNat = 0 ∨ 32 < c.station.schedLen.toNat ∨
    (∃ i : Fin 32, i.val < c.station.schedLen.toNat ∧ c.station.sched[i] = 3) ∨
    (∀ i : Fin 32, i.val < c.station.schedLen.toNat → c.station.sched[i] = 2)

/-- Order 6: CT_VALID = 1 and (HOUR > 23 or MIN > 59). -/
def CtBad (c : Settings) : Prop :=
  c.station.ctValid = true ∧ (23 < c.station.hour.toNat ∨ 59 < c.station.minute.toNat)

/-- Order 7: an audio parameter out of its range. -/
def AudioBad (c : Settings) : Prop :=
  32768 < c.audio.sep.toNat ∨ 32768 < c.audio.gain.toNat ∨ 3276 < c.audio.rdsLevel.toNat ∨
    32768 < c.audio.compSlope.toNat ∨
    (c.audio.compAtt.toNat = 0 ∨ 32768 < c.audio.compAtt.toNat) ∨
    (c.audio.compRel.toNat = 0 ∨ 32768 < c.audio.compRel.toNat) ∨
    (c.audio.limRel.toNat = 0 ∨ 32768 < c.audio.limRel.toNat) ∨
    0x800000 < c.audio.compThr.toNat ∨ 0x7FFFFF < c.audio.limCeil.toNat

/-- The station half passes orders 2 to 6 (all but PI, which is 0 after reset). -/
def StationOk (c : Settings) : Prop := ¬TextBad c ∧ ¬AfCountBad c ∧ ¬AfBad c ∧ ¬SchedBad c ∧ ¬CtBad c

/-! ### The invariant -/

/-- What every step keeps: the parameters conform; the pending and the active copy are legal but for PI, and PI too once a COMMIT has
succeeded; in IDLE nothing is pending (20_memory.md R84); a stream has a committed configuration and room in its buffer
(10_state.md R50); RS_POS is in RS_L .. RS_L + RS_M - 1 between calls (45_rate_converter.md R303); the gains are in range (10_state.md R48); the
bit clock and the carrier are in step (42_subcarrier_modulator.md R210); CLIP is 0 (44_multiplex_composer.md R283). -/
structure Invariant (s : State) : Prop where
  params : ParamsOk s.par
  pending : StationOk s.pe ∧ ¬AudioBad s.pe
  active : StationOk s.ac ∧ ¬AudioBad s.ac
  committed : s.flags.cfgValid = true → ¬PiBad s.par s.pe ∧ ¬PiBad s.par s.ac
  idle : s.pipe.stream = .idle → s.flags.pendRds = false ∧ s.flags.pendAud = false ∧ s.pipe.stopReq = false
  streaming : s.pipe.stream = .streaming → s.flags.cfgValid = true ∧ s.pipe.bufPos.toNat < s.pipe.bufLenAct.toNat
  bufLen : 1 ≤ s.pipe.bufLenAct.toNat ∧ s.pipe.bufLenAct.toNat ≤ 4096
  entry : ∃ rate, EntryOk rate s.conv.entry
  position : s.conv.entry.l.val ≤ s.conv.pos.toNat ∧ s.conv.pos.toNat < s.conv.entry.l.val + s.conv.entry.m
  gains : s.cond.env.toNat ≤ 8388608 ∧ s.cond.gc.toNat ≤ 32768 ∧ s.cond.lg.toNat ≤ 32768
  phase : s.modu.bitPh.val % 12 = s.modu.phase.val
  noClip : s.ctl.err.getLsbD 6 = false

/-! ### Teardown and START, in the terms of the rules -/

/-- RT_AB after adopting the station half `pe` over `ac`: flipped exactly when the padded texts differ (20_memory.md R82). -/
def FlipsOnNewText (pe ac : Station) (before after : Bool) : Prop :=
  ((∀ i : Fin 64, pe.rtp i = ac.rtp i) → after = before) ∧ ((∃ i : Fin 64, pe.rtp i ≠ ac.rtp i) → after = !before)

/-- `t` is `s` torn down (46_delivery_pipeline.md R341): IDLE, no stop waiting, the release pulse, both halves that were pending adopted,
everything else as it stood. -/
structure TornDown (s t : State) : Prop where
  pipe : t.pipe = { s.pipe with stream := .idle, stopReq := false }
  release : t.out = { s.out with sinkRelease := true }
  station : t.ac.station = if s.flags.pendRds then s.pe.station else s.ac.station
  audio : t.ac.audio = if s.flags.pendAud then s.pe.audio else s.ac.audio
  nothingPending : t.flags.pendRds = false ∧ t.flags.pendAud = false
  cfgValid : t.flags.cfgValid = s.flags.cfgValid
  textFlag : if s.flags.pendRds then FlipsOnNewText s.pe.station s.ac.station s.flags.rtAb t.flags.rtAb
    else t.flags.rtAb = s.flags.rtAb
  rest : t.ctl = s.ctl ∧ t.sh = s.sh ∧ t.pe = s.pe ∧ t.cur = s.cur ∧ t.modu = s.modu ∧ t.cond = s.cond ∧ t.conv = s.conv ∧
    t.acc = s.acc ∧ t.mon = s.mon ∧ t.cnt = s.cnt ∧ t.par = s.par ∧ t.world = s.world

/-- START's internal checks all pass (40_host_operations.md R146 to R149). -/
structure StartPasses (s : State) : Prop where
  idle : s.pipe.stream = .idle
  configured : s.flags.cfgValid = true
  bufLen : 1 ≤ s.ctl.bufLen.toNat ∧ s.ctl.bufLen.toNat ≤ 4096
  rate : s.ctl.live = true → ∃ e, (s.ctl.outRate, e) ∈ s.par.rsBank

/-! ### The address map, byte addresses as 20_memory.md R72 prints them -/

/-- The byte address of a shadow register (20_memory.md R72). -/
def confByteAddr : ConfReg → Nat
  | .pi => 0x040
  | .flags => 0x044
  | .psLen => 0x048
  | .ps i => 0x04C + 4 * i.val
  | .rtLen => 0x054
  | .afCount => 0x058
  | .ctCtrl => 0x05C
  | .ctMjd => 0x060
  | .ctTime => 0x064
  | .schedLen => 0x068
  | .rt i => 0x080 + 4 * i.val
  | .af i => 0x0C0 + 4 * i.val
  | .sched i => 0x140 + 4 * i.val
  | .sep => 0x1C0
  | .gain => 0x1C4
  | .rdsLevel => 0x1C8
  | .peSel => 0x1CC
  | .compThr => 0x1D0
  | .compSlope => 0x1D4
  | .compAtt => 0x1D8
  | .compRel => 0x1DC
  | .limCeil => 0x1E0
  | .limRel => 0x1E4

/-- The word index of a byte address (30_encoding.md R101: byte address = 4 * A). -/
def wordIndex (byteAddr : Nat) : RegIndex := BitVec.ofNat 9 (byteAddr / 4)

/-- The field bits of a configuration register (10_state.md R31 to R40). -/
def confMask : ConfReg → Word
  | .pi => 0x0000FFFF
  | .flags => 0x00000FFF
  | .psLen => 0x0000000F
  | .ps _ => 0xFFFFFFFF
  | .rtLen => 0x0000007F
  | .afCount => 0x0000001F
  | .ctCtrl => 0x00000001
  | .ctMjd => 0x0001FFFF
  | .ctTime => 0x003F3F1F
  | .schedLen => 0x0000003F
  | .rt _ => 0xFFFFFFFF
  | .af _ => 0x000007FF
  | .sched _ => 0x00000003
  | .sep | .gain | .rdsLevel => 0x0000FFFF
  | .peSel => 0x00000001
  | .compThr => 0x00FFFFFF
  | .compSlope | .compAtt | .compRel => 0x0000FFFF
  | .limCeil => 0x00FFFFFF
  | .limRel => 0x0000FFFF

/-- What a configuration register holds, in the terms of the fields the engine reads (10_state.md R31 to R40; CT_TIME: HOUR in bits 4..0,
MIN in 13..8, OFF_MAG in 20..16, OFF_SIGN in 21, R36). -/
def confValue (c : Settings) : ConfReg → Nat
  | .pi => c.station.pi.toNat
  | .flags => c.station.flags.toNat
  | .psLen => c.station.psLen.toNat
  | .ps i => c.station.ps[i].toNat
  | .rtLen => c.station.rtLen.toNat
  | .afCount => c.station.afCount.toNat
  | .ctCtrl => c.station.ctValid.toNat
  | .ctMjd => c.station.ctMjd.toNat
  | .ctTime =>
      c.station.hour.toNat + 2 ^ 8 * c.station.minute.toNat + 2 ^ 16 * c.station.offMag.toNat + 2 ^ 21 * c.station.offSign.toNat
  | .schedLen => c.station.schedLen.toNat
  | .rt i => c.station.rt[i].toNat
  | .af i => c.station.af[i].toNat
  | .sched i => c.station.sched[i].toNat
  | .sep => c.audio.sep.toNat
  | .gain => c.audio.gain.toNat
  | .rdsLevel => c.audio.rdsLevel.toNat
  | .peSel => c.audio.peSel.toNat
  | .compThr => c.audio.compThr.toNat
  | .compSlope => c.audio.compSlope.toNat
  | .compAtt => c.audio.compAtt.toNat
  | .compRel => c.audio.compRel.toNat
  | .limCeil => c.audio.limCeil.toNat
  | .limRel => c.audio.limRel.toNat

/-! ### Carriers and waveform, in the tables' own values -/

/-- T12[p mod 12], one cycle of the 19 kHz sine in Q15 (44_multiplex_composer.md R271). -/
def sineTwelfth (p : Nat) : Int :=
  ([0, 16384, 28378, 32767, 28378, 16384, 0, -16384, -28378, -32767, -28378, -16384] : List Int).getD (p % 12) 0

/-- C57[p mod 4], the 57 kHz carrier (42_subcarrier_modulator.md R225). -/
def sineQuarter (p : Nat) : Int := ([0, 1, 0, -1] : List Int).getD (p % 4) 0

/-- SHAPE_H[k] at any integer k, 0 outside 0 .. 479 (42_subcarrier_modulator.md R220). -/
def shapeEntry (h : List (BitVec 16)) (k : Int) : Int := if 0 ≤ k ∧ k ≤ 479 then (h.getD k.toNat 0).toInt else 0

/-! ### Runs of sink takes and of the converter's inputs -/

/-- The state after `n` turns of the loop of rs_out (45_rate_converter.md R304). -/
def rsInputs : Nat → State → State
  | 0, s => s
  | n + 1, s => rsInputs n (rsInput s)

/-- The state after `n` sink takes (46_delivery_pipeline.md R336). -/
def takes : Nat → State → State
  | 0, s => s
  | n + 1, s => takes n (sinkTake s).2

/-- The samples of `n` sink takes, in order. -/
def takeSamples : Nat → State → List (Sample × Word)
  | 0, _ => []
  | n + 1, s => (sinkTake s).1 :: takeSamples n (sinkTake s).2

/-- crc10 in its bit-serial form (41_group_encoder.md R172), for the bits most significant first. -/
def crcSerial : List Bool → BitVec 10 → BitVec 10
  | [], c => c
  | b :: bs, c =>
    let fb := xor (c.getLsbD 9) b
    let c1 := c <<< 1
    crcSerial bs (if fb then c1 ^^^ 0x1B9#10 else c1)

/-- The schedule slot a walk from index `i0` uses: the `j`-th slot counted cyclically among the first `n` (41_group_encoder.md R181). -/
def cyclicSlot (st : Station) (n i0 j : Nat) : BitVec 2 := st.slotAt (BitVec.ofNat 5 ((i0 + j) % n))

/-- The slot is a 4A slot that is skipped (41_group_encoder.md R181 (b)). -/
def SkippedSlot (st : Station) (code : BitVec 2) : Prop := code = 2 ∧ st.ctValid = false

/-- The index a walk starts from, after the guard (41_group_encoder.md R181). -/
def walkStart (s : State) : Nat :=
  if s.ac.station.schedLen.toNat ≤ s.cur.schedIdx.toNat then 0 else s.cur.schedIdx.toNat

/-- The instruction is the soft reset, as a command word or through the bus (40_host_operations.md R145, R151), or the hardware reset. -/
def ResetOp (i : Instr) : Prop :=
  i = .hwReset ∨ (∃ g, i = .softReset g) ∨ (∃ v : Word, i = .wr 1 v ∧ v.setWidth 8 = 4#8)

/-- The instruction is COMMIT, as a command word or through the bus (40_host_operations.md R142, R145). -/
def CommitOp (i : Instr) : Prop := (∃ g, i = .commit g) ∨ (∃ v : Word, i = .wr 1 v ∧ v.setWidth 8 = 1#8)

/-- The counters stand as 44_multiplex_composer.md R291 says they do at a step boundary of a stream: PHASE = TICK mod 12, BITPH = TICK mod
192, BITIDX = ceil(TICK / 192) mod 104, GROUP_COUNT = ceil(TICK / 19968) mod 2^32. -/
structure InStep (s : State) : Prop where
  phase : s.modu.phase.val = s.cnt.tick.toNat % 12
  bitPh : s.modu.bitPh.val = s.cnt.tick.toNat % 192
  bitIdx : s.modu.bitIdx.val = ((s.cnt.tick.toNat + 191) / 192) % 104
  groups : s.cnt.groupCount.toNat = ((s.cnt.tick.toNat + 19967) / 19968) % 2 ^ 32

/-- The sum over the taps of rs_out: RS_COEF[p + k * RS_L] * RS_HIST[k] for k = 0 .. RS_T - 1 (45_rate_converter.md R304). -/
def tapSum (e : BankEntry) (h : Vector Sample 64) (p : Nat) : Int :=
  ((List.range e.t.val).map fun k => coefAt e (p + k * e.l.val) * (h.toList.getD k 0).toInt).sum

end Sys2Proof.Machine
end

