-- ==== Sys2Proof/Certificates/Slice0/Obligations.lean ====
section
/-! DEFINITION. The statements for the provers. OBLIGATIONS.json lists them with the rules they rest on. -/

open Sys2Proof Sys2Proof.Machine

/-! ### Encodings and the step -/

/-- Decode and encode agree in both directions (30_encoding.md R101 to R104, R107 to R110, R112). -/
def Obligations.DecodeAndEncodeAgree : Prop :=
  (∀ i : Instr, wellFormed i = true → decode (encode i) = some i) ∧
  (∀ (r : Request) (i : Instr), decode r = some i → wellFormed i = true ∧ encode i = r)

/-- Words written out in the spec's programs and vectors decode to what they stand for (95_test_vectors.md P1, P5, V5). -/
def Obligations.SampleWordsDecode : Prop :=
  decode (.bus 0x21000001234#42) = some (.wr 0x010 0x1234) ∧ decode (.bus 0x20100000001#42) = some (.wr 0x001 1) ∧
  decode (.bus 0x11000000000#42) = some (.rd 0x110 0) ∧ decode (.cmd 0x00000101#32) = some (.commit 1) ∧
  decode (.cmd 0x00000080#32) = some (.cmdReserved 0x80 0) ∧ decode (.slot 2#2) = some .slot4A ∧
  decode (.b2 0x055C#16) = some (.group0A true 10 true true true 0) ∧
  decode (.b2 0x2551#16) = some (.group2A true 10 true 1) ∧ decode (.b2 0x4541#16) = some (.group4A true 10 1) ∧
  decode (.block 0x048D06A#26) = some (.block 0x1234 0x06A)

/-- A step with an agent's step listed decodes its request and runs it, on the state with it taken and the ports quiet; a row of the opcode
table put before the machine alone goes first and runs the same way. 00_scope.md R16 says that a step is one agent's; the list, the row and the
quiet ports are the model's choice (log 1, log 2, log 3, log 14). -/
def Obligations.StepRunsTheDecodedInstruction : Prop :=
  ∀ s : State,
    (∀ (a : AgentStep) (rest : List AgentStep) (i : Instr), s.world.row = none → s.world.script = a :: rest →
      decode (requestOfAgent a) = some i →
      step s = exec i ((s.setWorld { s.world with script := rest }).setOut Outputs.quiet)) ∧
    (∀ (r : Request) (i : Instr), s.world.row = some r → decode r = some i →
      step s = exec i ((s.setWorld { s.world with row := none }).setOut Outputs.quiet))

/-- With nothing listed the step is one of the environment's own, a free one of the four kinds of 00_scope.md R16, and it runs the same way
(the model's choice, log 1, log 2); a listed agent's step is of those kinds too. -/
def Obligations.StepOfTheFreeEnvironment : Prop :=
  (∀ s : State, s.world.row = none → s.world.script = [] →
    ∃ i, decode (requestOfAgent (Config.agentStep s.world.draws)) = some i ∧
      step s = exec i ((s.setWorld { s.world with draws := s.world.draws + 1 }).setOut Outputs.quiet)) ∧
  (∀ a : AgentStep, ∃ i, decode (requestOfAgent a) = some i ∧
    (i = .sinkTake ∨ i = .sinkFail ∨ i = .hwReset ∨ (∃ a d, i = .rd a d) ∨ (∃ a d, i = .wr a d)))

/-- Every step answers a next state, but for the block-2 word of no group put before the machine as a row (60_exceptions.md R360,
30_encoding.md R114 (c)). -/
def Obligations.StepStopsOnlyOnAnUndecodableBlockTwo : Prop :=
  ∀ s : State, (∃ t, step s = .next t) ∨
    (step s = .refused .undecodable ∧ ∃ w, s.world.row = some (Request.b2 w) ∧ decode (.b2 w) = none)

/-! ### Register access -/

/-- RD puts the addressed register on rdata and leaves everything else as it was (40_host_operations.md R140, 20_memory.md R78). -/
def Obligations.RdPutsTheRegisterOnRdata : Prop :=
  ∀ (a : RegIndex) (d : Word) (s : State), exec (.rd a d) s = .next (s.setOut { s.out with rdata := some (memRead a s) })

/-- The control, monitor and counter registers and the composed ones at their addresses (20_memory.md R72, 40_host_operations.md R140). -/
def Obligations.ComposedRegistersRead : Prop :=
  ∀ s : State,
    memRead (wordIndex 0x000) s = 0x50464D37#32 ∧ memRead (wordIndex 0x004) s = 0#32 ∧
    (memRead (wordIndex 0x008) s).toNat =
      (if s.pipe.stream = .streaming then 1 else 0) + 8 * s.flags.pendRds.toNat + 16 * s.flags.pendAud.toNat +
        32 * s.flags.cfgValid.toNat + 64 * s.flags.rtAb.toNat + 128 * s.pipe.liveAct.toNat ∧
    (memRead (wordIndex 0x00C) s).toNat = s.ctl.err.toNat ∧ (memRead (wordIndex 0x010) s).toNat = s.ctl.errInfo.toNat ∧
    (memRead (wordIndex 0x014) s).toNat = s.ctl.irqEn.toNat ∧ (memRead (wordIndex 0x018) s).toNat = s.ctl.live.toNat ∧
    memRead (wordIndex 0x01C) s = s.ctl.outRate ∧ (memRead (wordIndex 0x020) s).toNat = s.ctl.bufLen.toNat ∧
    (memRead (wordIndex 0x200) s).toNat = s.mon.peak.toNat ∧
    (memRead (wordIndex 0x204) s).toNat + 2 ^ 32 * (memRead (wordIndex 0x208) s).toNat = s.mon.sumsq.toNat ∧
    memRead (wordIndex 0x20C) s = s.mon.n ∧ (memRead (wordIndex 0x210) s).toNat = s.mon.pkMono.toNat ∧
    (memRead (wordIndex 0x214) s).toNat = s.mon.pkStereo.toNat ∧ (memRead (wordIndex 0x218) s).toNat = s.mon.pkPilot.toNat ∧
    (memRead (wordIndex 0x21C) s).toNat = s.mon.pkRds.toNat ∧ (memRead (wordIndex 0x220) s).toNat = s.mon.pilotLvl.toNat ∧
    (memRead (wordIndex 0x224) s).toNat = s.mon.rdsLvl.toNat ∧ (memRead (wordIndex 0x228) s).toNat = s.mon.gc.toNat ∧
    (memRead (wordIndex 0x22C) s).toNat = s.mon.lg.toNat ∧ memRead (wordIndex 0x230) s = s.cnt.groupCount ∧
    (memRead (wordIndex 0x234) s).toNat + 2 ^ 32 * (memRead (wordIndex 0x238) s).toNat = s.cnt.tick.toNat ∧
    (memRead (wordIndex 0x23C) s).toNat =
      s.cur.schedIdx.toNat + 2 ^ 8 * s.cur.psIdx.toNat + 2 ^ 12 * s.cur.rtIdx.toNat + 2 ^ 16 * s.cur.afIdx.toNat +
        2 ^ 20 * s.modu.bitIdx.val

/-- Each configuration register reads its shadow copy at its address and its active copy 0x400 higher: the value of its own fields, and 0
outside them (20_memory.md R72, R77, 10_state.md R31 to R40). -/
def Obligations.ConfigurationRegistersReadAtTheirAddresses : Prop :=
  ∀ (r : ConfReg) (s : State),
    memRead (wordIndex (confByteAddr r)) s = readConf s.sh r ∧
    memRead (wordIndex (confByteAddr r + 0x400)) s = readConf s.ac r ∧
    ∀ c : Settings, (readConf c r).toNat = confValue c r ∧ readConf c r &&& ~~~(confMask r) = 0

/-- Unmapped words, by the holes of 20_memory.md R72: a read returns 0, a write changes nothing, no flag is set (R75). A write to ID,
STATUS, ERR_INFO, a monitor or counter register or the active window is ignored too (R76). -/
def Obligations.UnmappedAndReadOnlyWordsIgnoreWrites : Prop :=
  ∀ (a : RegIndex) (v : Word) (s : State),
    (((0x024 ≤ 4 * a.toNat ∧ 4 * a.toNat ≤ 0x03C) ∨ (0x06C ≤ 4 * a.toNat ∧ 4 * a.toNat ≤ 0x07C) ∨
      (0x124 ≤ 4 * a.toNat ∧ 4 * a.toNat ≤ 0x13C) ∨ (0x1E8 ≤ 4 * a.toNat ∧ 4 * a.toNat ≤ 0x1FC) ∨
      (0x240 ≤ 4 * a.toNat ∧ 4 * a.toNat ≤ 0x43C) ∨ (0x46C ≤ 4 * a.toNat ∧ 4 * a.toNat ≤ 0x47C) ∨
      (0x524 ≤ 4 * a.toNat ∧ 4 * a.toNat ≤ 0x53C) ∨ (0x5E8 ≤ 4 * a.toNat ∧ 4 * a.toNat ≤ 0x7FC)) →
      exec (.rd a v) s = .next (s.setOut { s.out with rdata := some 0 }) ∧ exec (.wr a v) s = .next s) ∧
    ((4 * a.toNat = 0x000 ∨ 4 * a.toNat = 0x008 ∨ 4 * a.toNat = 0x010 ∨
      (0x200 ≤ 4 * a.toNat ∧ 4 * a.toNat ≤ 0x23C) ∨ (0x440 ≤ 4 * a.toNat ∧ 4 * a.toNat ≤ 0x5E4)) →
      exec (.wr a v) s = .next s)

/-- A write of a shadow register stores the written bits in that register's fields and drops the rest; the fields of every other register of
the shadow copy and everything outside it stay (20_memory.md R77, R78, 10_state.md R31 to R40). -/
def Obligations.WrShadowStoresTheFieldsOfOneRegister : Prop :=
  ∀ (r : ConfReg) (v : Word) (s : State),
    ∃ t, exec (.wr (wordIndex (confByteAddr r)) v) s = .next t ∧ t = s.setSh t.sh ∧
      readConf t.sh r = v &&& confMask r ∧ (∀ q, q ≠ r → readConf t.sh q = readConf s.sh q) ∧
      ∀ q, confValue t.sh q = if q = r then (v &&& confMask r).toNat else confValue s.sh q

/-- Writes of IRQ_EN, MODE, OUT_RATE and BUF_LEN store their fields and touch nothing else (10_state.md R27 to R30, 20_memory.md R77). -/
def Obligations.WrControlRegistersStoreTheirFields : Prop :=
  ∀ (v : Word) (s : State),
    (∃ t, exec (.wr (wordIndex 0x014) v) s = .next t ∧ t = s.setCtl { s.ctl with irqEn := t.ctl.irqEn } ∧
      memRead (wordIndex 0x014) t = v &&& 0x7F) ∧
    (∃ t, exec (.wr (wordIndex 0x018) v) s = .next t ∧ t = s.setCtl { s.ctl with live := t.ctl.live } ∧
      memRead (wordIndex 0x018) t = v &&& 1) ∧
    (∃ t, exec (.wr (wordIndex 0x01C) v) s = .next t ∧ t = s.setCtl { s.ctl with outRate := t.ctl.outRate } ∧
      memRead (wordIndex 0x01C) t = v) ∧
    (∃ t, exec (.wr (wordIndex 0x020) v) s = .next t ∧ t = s.setCtl { s.ctl with bufLen := t.ctl.bufLen } ∧
      memRead (wordIndex 0x020) t = v &&& 0x1FFF)

/-- A write of ERR clears exactly the flags written as 1 and nothing else, ERR_INFO included (20_memory.md R76, 40_host_operations.md
R141). -/
def Obligations.WrErrClearsTheFlagsWrittenAsOne : Prop :=
  ∀ (v : Word) (s : State),
    ∃ t, exec (.wr (wordIndex 0x00C) v) s = .next t ∧ t = s.setCtl { s.ctl with err := t.ctl.err } ∧
      ∀ k, k < 7 → t.ctl.err.getLsbD k = (s.ctl.err.getLsbD k && !v.getLsbD k)

/-- A write of CMD is the command its low eight bits name: the same next state as the command's own row (40_host_operations.md R145,
30_encoding.md R102). -/
def Obligations.WrCmdRunsTheCommandNamed : Prop :=
  ∀ (v : Word) (s : State), ∃ i t, decode (.cmd v) = some i ∧ exec i s = .next t ∧
    exec (.wr (wordIndex 0x004) v) s = .next t

/-! ### Commands -/

/-- NOP leaves every register as it was (40_host_operations.md R144). -/
def Obligations.NopLeavesEverythingAsItWas : Prop := ∀ (g : BitVec 24) (s : State), exec (.nop g) s = .next s

/-- validate(SH): the first failing check of 40_host_operations.md R143, in its order, gives the code; 0 if none fails. -/
def Obligations.ValidateNamesTheFirstFailingCheck : Prop :=
  ∀ (par : Params) (c : Settings),
    (PiBad par c → validate par c = 1) ∧
    (¬PiBad par c → TextBad c → validate par c = 2) ∧
    (¬PiBad par c → ¬TextBad c → AfCountBad c → validate par c = 4) ∧
    (¬PiBad par c → ¬TextBad c → ¬AfCountBad c → AfBad c → validate par c = 3) ∧
    (¬PiBad par c → ¬TextBad c → ¬AfCountBad c → ¬AfBad c → SchedBad c → validate par c = 5) ∧
    (¬PiBad par c → ¬TextBad c → ¬AfCountBad c → ¬AfBad c → ¬SchedBad c → CtBad c → validate par c = 6) ∧
    (¬PiBad par c → ¬TextBad c → ¬AfCountBad c → ¬AfBad c → ¬SchedBad c → ¬CtBad c → AudioBad c →
      validate par c = 7) ∧
    (¬PiBad par c → StationOk c → ¬AudioBad c → validate par c = 0)

/-- A COMMIT that fails raises ConfigurationError with the code of validate and changes ERR and ERR_INFO only
(40_host_operations.md R142 (a), 60_exceptions.md R364). -/
def Obligations.CommitRefusedChangesOnlyTheError : Prop :=
  ∀ (g : BitVec 24) (s : State), validate s.par s.sh ≠ 0 →
    exec (.commit g) s =
      .next (s.setCtl { s.ctl with err := s.ctl.err ||| 0x01#7, errInfo := validate s.par s.sh })

/-- A COMMIT that passes in IDLE makes the shadow copy pending and active at once; RT_AB flips exactly when the padded RadioText
changes (40_host_operations.md R142, 20_memory.md R82 to R84). -/
def Obligations.CommitInIdleAdoptsAtOnce : Prop :=
  ∀ (g : BitVec 24) (s : State), validate s.par s.sh = 0 → s.pipe.stream = .idle →
    ∃ t, exec (.commit g) s = .next t ∧ t.pe = s.sh ∧ t.ac = s.sh ∧
      t.flags.pendRds = false ∧ t.flags.pendAud = false ∧ t.flags.cfgValid = true ∧
      FlipsOnNewText s.sh.station s.ac.station s.flags.rtAb t.flags.rtAb ∧
      t = ((s.setPe t.pe).setAc t.ac).setFlags t.flags

/-- A COMMIT that passes while STREAMING makes the shadow copy pending and leaves the active copy alone (40_host_operations.md R142,
R154). -/
def Obligations.CommitWhileStreamingWaits : Prop :=
  ∀ (g : BitVec 24) (s : State), validate s.par s.sh = 0 → s.pipe.stream = .streaming →
    exec (.commit g) s =
      .next ((s.setPe s.sh).setFlags ⟨true, true, true, s.flags.rtAb⟩)

/-- START's refusals before the sink is asked, in their order: not configured 8, BUF_LEN 7, rate 32; only ERR and ERR_INFO change
(40_host_operations.md R146, R148, R149). -/
def Obligations.StartRefusedBeforeTheSinkIsAsked : Prop :=
  ∀ (g : BitVec 24) (s : State), s.pipe.stream = .idle →
    (s.flags.cfgValid = false →
      exec (.start g) s = .next (s.setCtl { s.ctl with err := s.ctl.err ||| 0x01#7, errInfo := 8 })) ∧
    (s.flags.cfgValid = true → (s.ctl.bufLen.toNat = 0 ∨ 4096 < s.ctl.bufLen.toNat) →
      exec (.start g) s = .next (s.setCtl { s.ctl with err := s.ctl.err ||| 0x01#7, errInfo := 7 })) ∧
    (s.flags.cfgValid = true → 1 ≤ s.ctl.bufLen.toNat → s.ctl.bufLen.toNat ≤ 4096 → s.ctl.live = true →
      (∀ x, x ∈ s.par.rsBank → x.1 ≠ s.ctl.outRate) →
      exec (.start g) s = .next (s.setCtl { s.ctl with err := s.ctl.err ||| 0x04#7, errInfo := 32 }))

/-- START while STREAMING sets START_BUSY, writes 48 and does nothing else, also while a STOP waits (40_host_operations.md R147). -/
def Obligations.StartWhileStreamingIsBusy : Prop :=
  ∀ (g : BitVec 24) (s : State), s.pipe.stream = .streaming →
    exec (.start g) s = .next (s.setCtl { s.ctl with err := s.ctl.err ||| 0x08#7, errInfo := 48 })

/-- START that passes its own checks and is turned away by the sink: SinkError 16 or 17, and no state but ERR, ERR_INFO changes
(40_host_operations.md R146, 60_exceptions.md R365). The port carried the request; an answer was taken. -/
def Obligations.StartRefusedByTheSink : Prop :=
  ∀ (g : BitVec 24) (s u : State) (a : SinkAnswer), StartPasses s →
    sinkOpen (if s.ctl.live then s.ctl.outRate else 228000) s.ctl.live s = (a, u) →
    u = (s.setWorld u.world).setOut
      { s.out with sinkOpen := some (if s.ctl.live then s.ctl.outRate else 228000, s.ctl.live) } ∧
    (a = .unavailable →
      exec (.start g) s = .next (u.setCtl { s.ctl with err := s.ctl.err ||| 0x02#7, errInfo := 16 })) ∧
    (a = .unsupported →
      exec (.start g) s = .next (u.setCtl { s.ctl with err := s.ctl.err ||| 0x02#7, errInfo := 17 }))

/-- START that the sink accepts: the stream reset, the latches, STREAMING; the configuration copies, the flags and the control
registers stay (40_host_operations.md R146, 10_state.md R62, 70_reset_and_hazards.md R401, R402). That the reset reaches RS_HIST and RS_POS in
file mode too is the model's choice (log 26). -/
def Obligations.StartBeginsAFreshStream : Prop :=
  ∀ (g : BitVec 24) (s u : State), StartPasses s →
    sinkOpen (if s.ctl.live then s.ctl.outRate else 228000) s.ctl.live s = (.ok, u) →
    ∃ t, exec (.start g) s = .next t ∧
      t.cur = ⟨0, 0, 0, 0⟩ ∧ t.modu = ⟨0, 0, 0, false, .zero, .zero, .zero, 0⟩ ∧ t.cond = ⟨0, 0, 0, 32768, 32768⟩ ∧
      (∀ k : Fin 64, t.conv.hist[k] = 0) ∧ t.conv.pos = BitVec.ofNat 11 t.conv.entry.l.val ∧
      (s.ctl.live = true → (s.ctl.outRate, t.conv.entry) ∈ s.par.rsBank) ∧
      (s.ctl.live = false → t.conv.entry = s.conv.entry) ∧
      t.pipe = ⟨.streaming, false, 0, s.ctl.live, s.ctl.bufLen⟩ ∧ t.acc = ⟨0, 0, 0, 0, 0, 0, 0⟩ ∧
      t.mon = ⟨0, 0, 0, 0, 0, 0, 0, 0, 0, 32768, 32768⟩ ∧ t.cnt = ⟨0, 0⟩ ∧
      t.ctl = s.ctl ∧ t.sh = s.sh ∧ t.pe = s.pe ∧ t.ac = s.ac ∧ t.flags = s.flags ∧ t.par = s.par ∧ t.world = u.world ∧
      t.out = { s.out with sinkOpen := some (if s.ctl.live then s.ctl.outRate else 228000, s.ctl.live) }

/-- STOP: in IDLE nothing, at a buffer boundary the teardown, inside a buffer STOP_REQ and nothing else (40_host_operations.md R150). -/
def Obligations.StopTearsDownAtABufferBoundary : Prop :=
  ∀ (g : BitVec 24) (s : State),
    (s.pipe.stream = .idle → exec (.stop g) s = .next s) ∧
    (s.pipe.stream = .streaming → s.pipe.bufPos = 0 → ∃ t, exec (.stop g) s = .next t ∧ TornDown s t) ∧
    (s.pipe.stream = .streaming → s.pipe.bufPos ≠ 0 →
      exec (.stop g) s = .next (s.setPipe { s.pipe with stopReq := true }))

/-- A waiting STOP takes effect after exactly BUF_LEN_ACT - BUF_POS more samples: before that the stream runs, then it is IDLE, the sink
released and nothing pending (40_host_operations.md R150 (c), 46_delivery_pipeline.md R339, R346). -/
def Obligations.StopDrainsTheBufferInFlight : Prop :=
  ∀ s : State, s.pipe.stream = .streaming → s.pipe.stopReq = true → s.pipe.bufPos.toNat < s.pipe.bufLenAct.toNat →
    (∀ n, n < s.pipe.bufLenAct.toNat - s.pipe.bufPos.toNat →
      (takes n s).pipe.stream = .streaming ∧ (takes n s).pipe.bufPos.toNat = s.pipe.bufPos.toNat + n ∧
        (takes n s).out.sinkRelease = s.out.sinkRelease) ∧
    (takes (s.pipe.bufLenAct.toNat - s.pipe.bufPos.toNat) s).pipe.stream = .idle ∧
    (takes (s.pipe.bufLenAct.toNat - s.pipe.bufPos.toNat) s).pipe.stopReq = false ∧
    (takes (s.pipe.bufLenAct.toNat - s.pipe.bufPos.toNat) s).out.sinkRelease = true ∧
    (takes (s.pipe.bufLenAct.toNat - s.pipe.bufPos.toNat) s).flags.pendRds = false ∧
    (takes (s.pipe.bufLenAct.toNat - s.pipe.bufPos.toNat) s).flags.pendAud = false

/-- A reserved opcode sets BAD_CMD, writes 49 and changes nothing else, in any STATE (40_host_operations.md R152). -/
def Obligations.ReservedCommandFlagsBadCommand : Prop :=
  ∀ (op : BitVec 8) (g : BitVec 24) (s : State),
    exec (.cmdReserved op g) s = .next (s.setCtl { s.ctl with err := s.ctl.err ||| 0x10#7, errInfo := 49 })

/-- HW_RESET and SOFT_RESET leave the reset state, the parameters as they were; SOFT_RESET releases the sink if a stream ran, the
`rst` port never does (40_host_operations.md R151, 70_reset_and_hazards.md R400, R402). The environment's lists stay (log 22). -/
def Obligations.ResetsRestoreTheResetState : Prop :=
  ∀ (g : BitVec 24) (s : State),
    exec .hwReset s = .next (((State.reset.setOut s.out).setWorld s.world).withPar s.par) ∧
    (s.pipe.stream = .idle →
      exec (.softReset g) s = .next (((State.reset.setOut s.out).setWorld s.world).withPar s.par)) ∧
    (s.pipe.stream = .streaming →
      exec (.softReset g) s =
        .next (((State.reset.setOut { s.out with sinkRelease := true }).setWorld s.world).withPar s.par))

/-- The reset values of 10_state.md R61, element by element. -/
def Obligations.ResetStateValues : Prop :=
  (∀ c, c = State.reset.sh ∨ c = State.reset.pe ∨ c = State.reset.ac →
    c.station.pi = 0 ∧ c.station.flags = 0 ∧ c.station.psLen = 0 ∧ (∀ i : Fin 8, c.station.psChar i = 0) ∧
    c.station.rtLen = 0 ∧ (∀ i : Fin 64, c.station.rtChar i = 0) ∧ c.station.afCount = 0 ∧
    (∀ i : Fin 25, c.station.af[i] = 0) ∧ c.station.ctValid = false ∧ c.station.ctMjd = 0 ∧ c.station.hour = 0 ∧
    c.station.minute = 0 ∧ c.station.offMag = 0 ∧ c.station.offSign = false ∧ c.station.schedLen = 6 ∧
    (∀ i : Fin 32, c.station.sched[i] = if i.val = 4 then 1 else if i.val = 5 then 2 else 0) ∧
    c.audio.sep = 32768 ∧ c.audio.gain = 32768 ∧ c.audio.rdsLevel = 1638 ∧ c.audio.peSel = false ∧
    c.audio.compThr = 0x7FFFFF ∧ c.audio.compSlope = 32768 ∧ c.audio.compAtt = 144 ∧ c.audio.compRel = 1 ∧
    c.audio.limCeil = 0x7FFFFF ∧ c.audio.limRel = 1) ∧
  State.reset.flags = ⟨false, false, false, false⟩ ∧
  State.reset.ctl = ⟨0, 0, 0, false, 48000, 1024⟩ ∧
  State.reset.pipe = ⟨.idle, false, 0, false, 1024⟩ ∧
  State.reset.conv.entry.l.val = 4 ∧ State.reset.conv.entry.m = 19 ∧ State.reset.conv.entry.t.val = 48 ∧
  State.reset.conv.entry.coef = defaultCoef ∧ State.reset.conv.pos = 4 ∧ (∀ k : Fin 64, State.reset.conv.hist[k] = 0) ∧
  State.reset.cur = ⟨0, 0, 0, 0⟩ ∧ State.reset.modu = ⟨0, 0, 0, false, .zero, .zero, .zero, 0⟩ ∧
  State.reset.cond = ⟨0, 0, 0, 32768, 32768⟩ ∧ State.reset.acc = ⟨0, 0, 0, 0, 0, 0, 0⟩ ∧
  State.reset.mon = ⟨0, 0, 0, 0, 0, 0, 0, 0, 0, 32768, 32768⟩ ∧ State.reset.cnt = ⟨0, 0⟩ ∧ State.reset.irq = false

/-! ### Errors and the copies of the configuration -/

/-- `irq` is 1 exactly when some flag of ERR is set and enabled (60_exceptions.md R370). -/
def Obligations.IrqIsErrAndEnable : Prop :=
  ∀ s : State, s.irq = true ↔ ∃ k, k < 7 ∧ s.ctl.err.getLsbD k = true ∧ s.ctl.irqEn.getLsbD k = true

/-- ERR flags are sticky: whatever runs, a set flag stays set, but for a write of 1 to it and for a reset (10_state.md R25). -/
def Obligations.ErrFlagsAreSticky : Prop :=
  ∀ (i : Instr) (s t : State) (k : Nat), k < 7 → exec i s = .next t → s.ctl.err.getLsbD k = true →
    t.ctl.err.getLsbD k = true ∨ ResetOp i ∨ ∃ v : Word, i = .wr (wordIndex 0x00C) v ∧ v.getLsbD k = true

/-- The shadow copy changes only by a write of one of its registers, the pending copy only by a COMMIT, besides resets
(10_state.md R21, R41, 20_memory.md R78). -/
def Obligations.ShadowAndPendingHaveOneWriterEach : Prop :=
  ∀ (i : Instr) (s t : State), exec i s = .next t → ResetOp i ∨
    ((t.sh = s.sh ∨ ∃ r v, i = .wr (wordIndex (confByteAddr r)) v ∧ t.sh = writeConf s.sh v r) ∧
     (t.pe = s.pe ∨ (CommitOp i ∧ validate s.par s.sh = 0 ∧ t.pe = s.sh)))

/-- The active copy changes only by adoption: each half is what it was, or the pending half where one waited, or, by a COMMIT in IDLE
that passed, the shadow half; besides resets (10_state.md R42, 20_memory.md R82, R83, R88). -/
def Obligations.ActiveChangesOnlyByAdoption : Prop :=
  ∀ (i : Instr) (s t : State), exec i s = .next t → ResetOp i ∨
    ((t.ac.station = s.ac.station ∨ (s.flags.pendRds = true ∧ t.ac.station = s.pe.station) ∨
        (CommitOp i ∧ s.pipe.stream = .idle ∧ validate s.par s.sh = 0 ∧ t.ac.station = s.sh.station)) ∧
     (t.ac.audio = s.ac.audio ∨ (s.flags.pendAud = true ∧ t.ac.audio = s.pe.audio) ∨
        (CommitOp i ∧ s.pipe.stream = .idle ∧ validate s.par s.sh = 0 ∧ t.ac.audio = s.sh.audio)))

/-! ### The group encoder -/

/-- rem is linear, and leaves words below 0x400 alone (41_group_encoder.md R171); the bit-serial form of crc10 gives the same ten bits
(R172). -/
def Obligations.RemainderIsLinear : Prop :=
  (∀ (w : Nat) (a b : BitVec w), polyRem (a ^^^ b) = polyRem a ^^^ polyRem b) ∧
  (∀ (w : Nat) (v : BitVec w), v.toNat < 0x400 → (polyRem v).toNat = v.toNat) ∧
  (∀ m : BitVec 16, crcSerial (bitsMsb m) 0 = crc10 m)

/-- Every block carries its information word, and its syndrome is its offset word, whatever the offset (41_group_encoder.md R173, R174);
the four blocks of a group have the offsets A, B, C, D (R187, 30_encoding.md R104, R105). -/
def Obligations.SyndromeOfABlockIsItsOffset : Prop :=
  (∀ (m : BitVec 16) (off : BitVec 10),
    (block26 m off).extractLsb' 10 16 = m ∧ syndrome (block26 m off) = off) ∧
  (∀ b1 b2 b3 b4 : BitVec 16, blocksOf (assemble b1 b2 b3 b4) =
    [block26 b1 0x0FC, block26 b2 0x198, block26 b3 0x168, block26 b4 0x1B4])

/-- NEXT_GROUP on a legal schedule completes with a group whose four checkwords verify and whose first block carries PI; of the machine
only the cursor moves (41_group_encoder.md R174, R180, R187, 30_encoding.md R106). That the row runs alone, in any STATE, is the
model's choice (log 3). -/
def Obligations.EveryEmittedGroupVerifies : Prop :=
  ∀ s : State, ¬SchedBad s.ac →
    ∃ t g, exec .nextGroup s = .next t ∧ t.out = { s.out with engine := .group g } ∧
      (blocksOf g).map syndrome = [0x0FC#10, 0x198#10, 0x168#10, 0x1B4#10] ∧
      g.extractLsb' 88 16 = s.ac.station.pi ∧ t = (s.setCur t.cur).setOut t.out

/-- The schedule walk (41_group_encoder.md R181): NEXT_GROUP uses the first slot, counted cyclically from the guarded SCHED_IDX, that is
not a 4A slot without a time source, and leaves SCHED_IDX just after it; the group is the one that slot's row builds from there. That
NEXT_GROUP and the slot rows run alone, in any STATE, is the model's choice (log 3, log 12). -/
def Obligations.ScheduleWalkUsesTheNextUnskippedSlot : Prop :=
  ∀ s : State, ¬SchedBad s.ac →
    ∃ j t, j < s.ac.station.schedLen.toNat ∧
      (∀ k, k < j → SkippedSlot s.ac.station (cyclicSlot s.ac.station s.ac.station.schedLen.toNat (walkStart s) k)) ∧
      ¬SkippedSlot s.ac.station (cyclicSlot s.ac.station s.ac.station.schedLen.toNat (walkStart s) j) ∧
      exec .nextGroup s = .next t ∧
      t.cur.schedIdx.toNat = (walkStart s + j + 1) % s.ac.station.schedLen.toNat ∧
      ∃ i, decode (.slot (cyclicSlot s.ac.station s.ac.station.schedLen.toNat (walkStart s) j)) = some i ∧
        i ≠ .slotReserved ∧
        exec i (s.setCur { s.cur with
          schedIdx := BitVec.ofNat 5 ((walkStart s + j) % s.ac.station.schedLen.toNat) }) = .next t

/-- The slot rows run alone, in any STATE (the model's choice, log 3, log 12, log 13): SCHED_IDX is guarded and advanced and
the slot's group is built; a 4A slot without a time source only advances; the reserved code advances with a free group (log 6), and no row
raises an error (41_group_encoder.md R180, R181, 30_encoding.md R112). -/
def Obligations.SlotRowsAdvanceAndBuild : Prop :=
  ∀ s v : State, s.ac.station.schedLen.toNat ≠ 0 →
    v = s.setCur { s.cur with schedIdx := BitVec.ofNat 5 ((walkStart s + 1) % s.ac.station.schedLen.toNat) } →
    (∃ t, exec .slot0A s = .next t ∧ exec (.group0A false 0 false false false 0) v = .next t ∧ t.ctl = s.ctl) ∧
    (∃ t, exec .slot2A s = .next t ∧ exec (.group2A false 0 false 0) v = .next t ∧ t.ctl = s.ctl) ∧
    (s.ac.station.ctValid = true →
      ∃ t, exec .slot4A s = .next t ∧ exec (.group4A false 0 0) v = .next t ∧ t.ctl = s.ctl) ∧
    (s.ac.station.ctValid = false → exec .slot4A s = .next (v.setOut { s.out with engine := .skipped })) ∧
    exec .slotReserved s =
      .next ((v.setWorld { s.world with draws := s.world.draws + 1 }).setOut
        { s.out with engine := .group (Config.freeGroup s.world.draws) })

/-- GROUP_0A builds the group of 30_encoding.md R106 to R108 from AC and the cursor and advances PS_IDX and AF_IDX, nothing else
(41_group_encoder.md R183, R184); PTY, TP, TA, MS, DI are the bits of FLAGS (10_state.md R32), PSP the characters of PS0 and PS1, the first in
the low byte, padded with 0x20 (R33, R43, 20_memory.md R74). The row's fields are what the group carries, not inputs (log 10). -/
def Obligations.Group0ARowBuildsTheGroup : Prop :=
  ∀ (tp : Bool) (pty : BitVec 5) (ta ms di : Bool) (seg : BitVec 2) (s : State) (a : Nat),
    a = (if s.ac.station.nPairs ≤ s.cur.afIdx.toNat then 0 else s.cur.afIdx.toNat) →
    ∃ t b2 b3 b4, exec (.group0A tp pty ta ms di seg) s = .next t ∧
      t.out = { s.out with engine := .group (assemble s.ac.station.pi b2 b3 b4) } ∧
      b2.toNat = 1024 * s.ac.station.tp.toNat + 32 * s.ac.station.pty.toNat + 16 * s.ac.station.ta.toNat +
        8 * s.ac.station.ms.toNat + 4 * (s.ac.station.di (3 - s.cur.psIdx.toNat)).toNat + s.cur.psIdx.toNat ∧
      2 * a + 1 < s.ac.station.codeList.length ∧
      b3.toNat = 256 * (s.ac.station.codeList.getD (2 * a) 0).toNat + (s.ac.station.codeList.getD (2 * a + 1) 0).toNat ∧
      b4.toNat = 256 * (s.ac.station.psp (Fin.ofNat 8 (2 * s.cur.psIdx.toNat))).toNat +
        (s.ac.station.psp (Fin.ofNat 8 (2 * s.cur.psIdx.toNat + 1))).toNat ∧
      t.cur.psIdx.toNat = (s.cur.psIdx.toNat + 1) % 4 ∧ t.cur.afIdx.toNat = (a + 1) % s.ac.station.nPairs ∧
      t.cur.schedIdx = s.cur.schedIdx ∧ t.cur.rtIdx = s.cur.rtIdx ∧ t = (s.setCur t.cur).setOut t.out ∧
      s.ac.station.pty.toNat = s.ac.station.flags.toNat % 2 ^ 5 ∧ s.ac.station.tp = s.ac.station.flags.getLsbD 5 ∧
      s.ac.station.ta = s.ac.station.flags.getLsbD 6 ∧ s.ac.station.ms = s.ac.station.flags.getLsbD 7 ∧
      (∀ k, k < 4 → s.ac.station.di k = s.ac.station.flags.getLsbD (8 + k)) ∧
      ∀ i : Fin 8, (s.ac.station.psp i).toNat =
        if i.val < min s.ac.station.psLen.toNat 8 then
          (s.ac.station.ps[i.val / 4]'(by omega)).toNat / 2 ^ (8 * (i.val % 4)) % 2 ^ 8 else 0x20

/-- GROUP_2A builds the group of 30_encoding.md R106, R107, R109 and advances RT_IDX, nothing else (41_group_encoder.md R185); PTY and TP are
the bits of FLAGS (10_state.md R32), RTP the characters of RT0 to RT15, the first in the low byte, padded with 0x20 (R34, R43, 20_memory.md
R74). The row's fields are what the group carries, not inputs (log 10). -/
def Obligations.Group2ARowBuildsTheGroup : Prop :=
  ∀ (tp : Bool) (pty : BitVec 5) (ab : Bool) (seg : BitVec 4) (s : State),
    ∃ t b2 b3 b4, exec (.group2A tp pty ab seg) s = .next t ∧
      t.out = { s.out with engine := .group (assemble s.ac.station.pi b2 b3 b4) } ∧
      b2.toNat = 8192 + 1024 * s.ac.station.tp.toNat + 32 * s.ac.station.pty.toNat + 16 * s.flags.rtAb.toNat +
        s.cur.rtIdx.toNat ∧
      b3.toNat = 256 * (s.ac.station.rtp (Fin.ofNat 64 (4 * s.cur.rtIdx.toNat))).toNat +
        (s.ac.station.rtp (Fin.ofNat 64 (4 * s.cur.rtIdx.toNat + 1))).toNat ∧
      b4.toNat = 256 * (s.ac.station.rtp (Fin.ofNat 64 (4 * s.cur.rtIdx.toNat + 2))).toNat +
        (s.ac.station.rtp (Fin.ofNat 64 (4 * s.cur.rtIdx.toNat + 3))).toNat ∧
      t.cur.rtIdx.toNat = (s.cur.rtIdx.toNat + 1) % 16 ∧ t.cur.schedIdx = s.cur.schedIdx ∧
      t.cur.psIdx = s.cur.psIdx ∧ t.cur.afIdx = s.cur.afIdx ∧ t = (s.setCur t.cur).setOut t.out ∧
      s.ac.station.pty.toNat = s.ac.station.flags.toNat % 2 ^ 5 ∧ s.ac.station.tp = s.ac.station.flags.getLsbD 5 ∧
      ∀ i : Fin 64, (s.ac.station.rtp i).toNat =
        if i.val < s.ac.station.rtLen.toNat then
          (s.ac.station.rt[i.val / 4]'(by omega)).toNat / 2 ^ (8 * (i.val % 4)) % 2 ^ 8 else 0x20

/-- GROUP_4A builds the group of 30_encoding.md R106, R107, R110 and leaves the cursor alone (41_group_encoder.md R186). That the row run alone
does so with CT_VALID = 0 too is the model's choice (log 27). -/
def Obligations.Group4ARowBuildsTheGroup : Prop :=
  ∀ (tp : Bool) (pty : BitVec 5) (mjdHi : BitVec 2) (s : State),
    ∃ t b2 b3 b4, exec (.group4A tp pty mjdHi) s = .next t ∧
      t = s.setOut { s.out with engine := .group (assemble s.ac.station.pi b2 b3 b4) } ∧
      b2.toNat = 16384 + 1024 * s.ac.station.tp.toNat + 32 * s.ac.station.pty.toNat + s.ac.station.ctMjd.toNat / 2 ^ 15 ∧
      b3.toNat = 2 * (s.ac.station.ctMjd.toNat % 2 ^ 15) + s.ac.station.hour.toNat / 16 ∧
      b4.toNat = 4096 * (s.ac.station.hour.toNat % 16) + 64 * s.ac.station.minute.toNat +
        32 * s.ac.station.offSign.toNat + s.ac.station.offMag.toNat

/-- CL (10_state.md R43, 30_encoding.md R111): for a legal count, the count code, then each frequency less 875 in order, then 205 exactly
when the count is even; its length is even, 2 to 26. -/
def Obligations.AfCodeListIsComplete : Prop :=
  ∀ c : Settings, ¬AfCountBad c → ¬AfBad c →
    c.station.codeList.length % 2 = 0 ∧ 2 ≤ c.station.codeList.length ∧ c.station.codeList.length ≤ 26 ∧
    c.station.nPairs * 2 = c.station.codeList.length ∧
    (c.station.codeList.getD 0 0).toNat = 224 + c.station.afCount.toNat ∧
    (∀ i : Fin 25, i.val < c.station.afCount.toNat →
      (c.station.codeList.getD (i.val + 1) 0).toNat + 875 = c.station.af[i].toNat) ∧
    (c.station.afCount.toNat % 2 = 0 →
      c.station.codeList.length = c.station.afCount.toNat + 2 ∧
        c.station.codeList.getD (c.station.afCount.toNat + 1) 0 = 205#8) ∧
    (c.station.afCount.toNat % 2 = 1 → c.station.codeList.length = c.station.afCount.toNat + 1)

/-- BLOCK and GROUP select nothing: of the machine nothing changes; the model shows the syndromes of the word's blocks, and a block made
by block26 shows its offset word (30_encoding.md R113 (5), 41_group_encoder.md R174; the model's choice, log 11). -/
def Obligations.BlockAndGroupRowsShowSyndromes : Prop :=
  (∀ (m : BitVec 16) (off : BitVec 10) (s : State),
    exec (.block m (checkword m off)) s = .next (s.setOut { s.out with engine := .syndromes [off] })) ∧
  (∀ (info : BitVec 16) (check : BitVec 10) (s : State),
    exec (.block info check) s = .next (s.setOut { s.out with engine := .syndromes [crc10 info ^^^ check] })) ∧
  (∀ (b1 b2 b3 b4 : BlockWord) (s : State),
    exec (.group b1 b2 b3 b4) s =
      .next (s.setOut { s.out with engine := .syndromes ((blocksOf (b1 ++ b2 ++ b3 ++ b4)).map syndrome) }))

/-! ### The modulator -/

/-- BIT: at a group boundary adoption, the next group and the count come first; then the bit BITIDX names is encoded differentially, the
symbols shift and BITIDX advances (42_subcarrier_modulator.md R212 to R215). R212 runs bit_step inside a tick, at BITPH = 0; that the row runs
alone, in any STATE and at any BITPH, is the model's choice (log 3). -/
def Obligations.BitRowEncodesDifferentially : Prop :=
  ∀ s u : State,
    (s.modu.bitIdx ≠ 0 → u = s) →
    (s.modu.bitIdx = 0 →
      u = ((nextGroup (adoptStation s)).2.setModu { s.modu with groupSr := (nextGroup (adoptStation s)).1 }).setCnt
        { s.cnt with groupCount := s.cnt.groupCount + 1 }) →
    ∃ t, exec .bit s = .next t ∧ t = u.setModu t.modu ∧
      t.modu.dprev = xor s.modu.dprev (u.modu.groupSr.getLsbD (103 - s.modu.bitIdx.val)) ∧
      t.modu.sym0 = (if t.modu.dprev then .plus else .minus) ∧ t.modu.sym1 = s.modu.sym0 ∧ t.modu.sym2 = s.modu.sym1 ∧
      t.modu.bitIdx.val = (s.modu.bitIdx.val + 1) % 104 ∧ t.modu.groupSr = u.modu.groupSr ∧
      t.modu.bitPh = s.modu.bitPh ∧ t.modu.phase = s.modu.phase

/-- The subcarrier sample: W[n] = SHAPE_H[n] - SHAPE_H[n - 96], the sum of three symbols, each +1, -1 or 0 (none yet), and the carrier
0, +1, 0, -1 by PHASE. For a conforming SHAPE_H the waveform is antisymmetric and the sample fits 16 signed bits, and is 0 at every even PHASE
(42_subcarrier_modulator.md R220, R221, R222, R224, R225, 10_state.md R46). -/
def Obligations.SubcarrierFitsSixteenBits : Prop :=
  ∀ s : State,
    (∀ n : Nat, n < 576 → waveAt s.par.shapeH n = shapeEntry s.par.shapeH n - shapeEntry s.par.shapeH ((n : Int) - 96)) ∧
    (∀ g : Sign, g.toInt = if g = .plus then 1 else if g = .minus then -1 else 0) ∧
    shapedSum s.par.shapeH s.modu =
      s.modu.sym0.toInt * waveAt s.par.shapeH s.modu.bitPh.val +
        s.modu.sym1.toInt * waveAt s.par.shapeH (192 + s.modu.bitPh.val) +
        s.modu.sym2.toInt * waveAt s.par.shapeH (384 + s.modu.bitPh.val) ∧
    rdsSample s = sineQuarter s.modu.phase.val * shapedSum s.par.shapeH s.modu ∧
    (ShapeOk s.par.shapeH →
      (∀ n, n < 576 → waveAt s.par.shapeH (575 - n) = -waveAt s.par.shapeH n) ∧
      (shapedSum s.par.shapeH s.modu).natAbs ≤ 32767 ∧ (rdsSample s).natAbs ≤ 32767 ∧
      (s.modu.phase.val % 2 = 0 → rdsSample s = 0))

/-! ### The tick -/

/-- The arithmetic primitives (00_scope.md R14): saturation, the truncated Q15 product with its laws and its bound, the two rounded
divisions. -/
def Obligations.ArithmeticPrimitives : Prop :=
  (∀ v : Int, sat24 v = max (-8388608) (min 8388607 v)) ∧
  (∀ a c : Int, mulq15t a c = Int.sign (a * c) * ((a * c).natAbs / 32768 : Nat)) ∧
  (∀ d k : Int, mulk d k = Int.fdiv (d * k + 512) 1024) ∧ (∀ v : Int, rnd15 v = Int.fdiv (v + 16384) 32768) ∧
  (∀ a : Int, mulq15t a 32768 = a ∧ mulq15t a 0 = 0) ∧
  (∀ a c : Int, (mulq15t a c).natAbs * 32768 ≤ a.natAbs * c.natAbs)

/-- TICK while STREAMING completes: adoption of the audio half, the modulator (a bit step when BITPH = 0), the frame, the chain, the four
contributions with their carriers and gains, their saturated sum, all seven accumulators, the counters, in this order; AIN_UNDER is set
exactly when no frame was there and CLIP exactly when the sum left the range, ERR_INFO is not written (44_multiplex_composer.md R271, R272,
R273, R282, R288, R290, R291, 43_audio_conditioning.md R241). In IDLE no tick runs and the row changes nothing (R290).
The row run alone is the model's choice (log 3). -/
def Obligations.TickRowRunsTheChain : Prop :=
  ∀ s : State,
    (s.pipe.stream = .idle → exec .tick s = .next s) ∧
    (s.pipe.stream = .streaming →
      ∃ (t v u w : State) (ans : Option Frame) (r : Conditioned) (mono stereo pilot rds comp : Int), exec .tick s = .next t ∧
        v = (if s.flags.pendAud then (s.setFlags { s.flags with pendAud := false }).setAc { s.ac with audio := s.pe.audio }
          else s) ∧
        (s.modu.bitPh = 0 → exec .bit v = .next u) ∧ (s.modu.bitPh ≠ 0 → u = v) ∧
        drawAudio u = (ans, w) ∧ r = condition u.ac.audio s.cond (ans.getD ⟨0, 0⟩) ∧
        mono = mulq15t r.mf 26214 ∧
        stereo = mulq15t (mulq15t r.sf (sineTwelfth (2 * s.modu.phase.val))) 26214 ∧
        pilot = mulq15t (sineTwelfth s.modu.phase.val * 256) 2949 ∧
        rds = mulq15t (rdsSample u * 256) u.ac.audio.rdsLevel.toNat ∧
        comp = sat24 (mono + stereo + pilot + rds) ∧
        t.out = { s.out with engine := .sample (BitVec.ofInt 24 comp) } ∧ t.cond = r.next ∧
        (∀ k, k < 7 → t.ctl.err.getLsbD k = (s.ctl.err.getLsbD k || (k == 5 && ans.isNone) ||
          (k == 6 && decide (comp ≠ mono + stereo + pilot + rds)))) ∧
        t.ctl = { s.ctl with err := t.ctl.err } ∧
        t.acc.peak.toNat = max s.acc.peak.toNat comp.natAbs ∧
        t.acc.sumsq = s.acc.sumsq + BitVec.ofInt 64 (comp ^ 2) ∧ t.acc.n = s.acc.n + 1 ∧
        t.acc.pkMono = BitVec.ofNat 24 (max s.acc.pkMono.toNat mono.natAbs) ∧
        t.acc.pkStereo = BitVec.ofNat 24 (max s.acc.pkStereo.toNat stereo.natAbs) ∧
        t.acc.pkPilot.toNat = max s.acc.pkPilot.toNat pilot.natAbs ∧
        t.acc.pkRds = BitVec.ofNat 24 (max s.acc.pkRds.toNat rds.natAbs) ∧
        t.modu.phase.val = (s.modu.phase.val + 1) % 12 ∧ t.modu.bitPh.val = (s.modu.bitPh.val + 1) % 192 ∧
        t.modu = { u.modu with phase := t.modu.phase, bitPh := t.modu.bitPh } ∧
        t.cnt = ⟨u.cnt.groupCount, s.cnt.tick + 1⟩ ∧ t.cur = u.cur ∧ t.flags = u.flags ∧ t.ac = u.ac ∧ t.world = w.world ∧
        t.flags.pendAud = false ∧ t.sh = s.sh ∧ t.pe = s.pe ∧ t.conv = s.conv ∧ t.pipe = s.pipe ∧ t.mon = s.mon ∧
        t.par = s.par)

/-- The counters stay in step with TICK, up to its wrap at 2^64, and the TICK row counts one while STREAMING and none in IDLE
(44_multiplex_composer.md R290, R291, R292, 95_test_vectors.md V17; log 24; the row run alone: log 3). In the hardware's own steps no tick is a
step of its own: a step either leaves the modulator, the conditioning chain, the accumulators and the counters as they were, or is a START or
a reset and leaves their reset values, or is a sink take while STREAMING (R290); and no step puts a row before the machine. -/
def Obligations.TickKeepsTheCountersInStep : Prop :=
  (∀ s t : State, InStep s → s.cnt.tick.toNat + 1 < 2 ^ 64 → exec .tick s = .next t →
    InStep t ∧ t.cnt.tick.toNat = s.cnt.tick.toNat + (if s.pipe.stream = .streaming then 1 else 0)) ∧
  (∀ s t : State, step s = .next t → t.world.row = none) ∧
  (∀ s t : State, s.world.row = none → step s = .next t →
    (t.modu = s.modu ∧ t.cond = s.cond ∧ t.acc = s.acc ∧ t.cnt = s.cnt) ∨
    (t.modu = ⟨0, 0, 0, false, .zero, .zero, .zero, 0⟩ ∧ t.cond = ⟨0, 0, 0, 32768, 32768⟩ ∧ t.acc = ⟨0, 0, 0, 0, 0, 0, 0⟩ ∧
      t.cnt = ⟨0, 0⟩) ∨
    (s.pipe.stream = .streaming ∧ exec .sinkTake (takeRequest s).2 = .next t))

/-- The limiter's brick wall through the final gain: |Mf| + |Sf| <= LIM_CEIL for every frame and every state of the chain, under a legal
audio half; the gains stay at most 1.0 and ENV in its range (43_audio_conditioning.md R246, R247, R249, R251). -/
def Obligations.LimiterBoundsTheAudio : Prop :=
  ∀ (c : Settings) (k : Conditioning) (f : Frame), ¬AudioBad c → k.env.toNat ≤ 8388608 →
    (condition c.audio k f).mf.natAbs + (condition c.audio k f).sf.natAbs ≤ c.audio.limCeil.toNat ∧
    (condition c.audio k f).next.env.toNat ≤ 8388608 ∧
    (condition c.audio k f).next.gc.toNat ≤ 32768 ∧ (condition c.audio k f).next.lg.toNat ≤ 32768

/-- SEP = 0 removes the difference signal and the 38 kHz contribution in every tick (43_audio_conditioning.md R245,
44_multiplex_composer.md R273 (d)). -/
def Obligations.SeparationZeroIsMono : Prop :=
  ∀ (a : Audio) (k : Conditioning) (f : Frame) (p : Fin 12) (level : Coef) (rds : Int), a.sep = 0 →
    (condition a k f).sf = 0 ∧ (contributions p level (condition a k f).mf (condition a k f).sf rds).stereo = 0

/-- The chain of one frame, in the rules' terms: pre-emphasis, matrix, separation, envelope, compressor gain, limiter, final gain, and the
state it leaves, for every legal audio half and every ENV in its range (43_audio_conditioning.md R240, R242 to R249, R251). -/
def Obligations.ConditioningFollowsTheChain : Prop :=
  ∀ (c : Settings) (k : Conditioning) (f : Frame) (yl yr m a env s1 e gc mc sc pk lg : Int),
    ¬AudioBad c → k.env.toNat ≤ 8388608 →
    yl = sat24 (f.l.toInt + mulk (f.l.toInt - k.x1l.toInt) (if c.audio.peSel then 17510 else 11674)) →
    yr = sat24 (f.r.toInt + mulk (f.r.toInt - k.x1r.toInt) (if c.audio.peSel then 17510 else 11674)) →
    m = Int.fdiv (yl + yr) 2 → s1 = mulq15t (Int.fdiv (yl - yr) 2) c.audio.sep.toNat →
    a = m.natAbs → env = k.env.toNat →
    e = (if env < a then env + ((a - env) * c.audio.compAtt.toNat) / 32768
      else env - ((env - a) * c.audio.compRel.toNat) / 32768) →
    gc = (if e ≤ c.audio.compThr.toNat then 32768
      else ((c.audio.compThr.toNat + ((e - c.audio.compThr.toNat) * c.audio.compSlope.toNat) / 32768) * 32768) / e) →
    mc = mulq15t m gc → sc = mulq15t s1 gc → pk = mc.natAbs + sc.natAbs →
    lg = min (if c.audio.limCeil.toNat < pk then (c.audio.limCeil.toNat * 32768) / pk else 32768)
      (min 32768 (k.lg.toNat + c.audio.limRel.toNat)) →
    (condition c.audio k f).mf = mulq15t (mulq15t mc lg) c.audio.gain.toNat ∧
    (condition c.audio k f).sf = mulq15t (mulq15t sc lg) c.audio.gain.toNat ∧
    (condition c.audio k f).next.x1l = f.l ∧ (condition c.audio k f).next.x1r = f.r ∧
    ((condition c.audio k f).next.env.toNat : Int) = e ∧ ((condition c.audio k f).next.gc.toNat : Int) = gc ∧
    ((condition c.audio k f).next.lg.toNat : Int) = lg

/-- Headroom: with conforming parameters and legal audio halves the sum of a tick stays within 8304436, and no tick sets CLIP
(44_multiplex_composer.md R282, R283, 60_exceptions.md R369). -/
def Obligations.HeadroomHolds : Prop :=
  ∀ s t : State, ParamsOk s.par → ¬AudioBad s.ac → ¬AudioBad s.pe → exec .tick s = .next t →
    (tickParts s).sum.natAbs ≤ 8304436 ∧ (tickParts s).comp = (tickParts s).sum ∧
      t.ctl.err.getLsbD 6 = s.ctl.err.getLsbD 6

/-! ### The rate converter -/

/-- RS_OUT while a live stream runs completes: the loop's turn is made floor(RS_POS / RS_L) times, each turn with one tick, the phase is then
RS_POS mod RS_L, the output is the rounded and saturated tap sum over the history then held, RS_POS gains RS_M, and nothing else follows the
turns (45_rate_converter.md R303, R304). In IDLE and in file mode the row changes nothing (44_multiplex_composer.md R290, R302).
The row run alone is the model's choice (log 3). -/
def Obligations.RsOutRowResamples : Prop :=
  ∀ s : State,
    ((s.pipe.stream = .idle ∨ s.pipe.liveAct = false) → exec .rsOut s = .next s) ∧
    (s.pipe.stream = .streaming → s.pipe.liveAct = true →
      ∃ t u, exec .rsOut s = .next t ∧ u = rsInputs (s.conv.pos.toNat / s.conv.entry.l.val) s ∧
        u.conv.pos.toNat = s.conv.pos.toNat % s.conv.entry.l.val ∧
        t = (u.setConv { u.conv with pos := BitVec.ofNat 11 (u.conv.pos.toNat + u.conv.entry.m) }).setOut t.out ∧
        t.conv.hist = u.conv.hist ∧
        t.cnt.tick = s.cnt.tick + BitVec.ofNat 64 (s.conv.pos.toNat / s.conv.entry.l.val) ∧
        t.conv.entry = s.conv.entry ∧
        t.conv.pos = BitVec.ofNat 11 (s.conv.pos.toNat % s.conv.entry.l.val + s.conv.entry.m) ∧
        t.out = { s.out with engine := .sample (BitVec.ofInt 24
          (sat24 ((tapSum t.conv.entry t.conv.hist (s.conv.pos.toNat % s.conv.entry.l.val) + 16384) / 32768))) } ∧
        t.sh = s.sh ∧ t.pe = s.pe ∧ t.pipe = s.pipe ∧ t.mon = s.mon ∧ t.par = s.par ∧
        t.ctl = { s.ctl with err := t.ctl.err } ∧ t.flags.cfgValid = s.flags.cfgValid)

/-- One turn of the loop of rs_out: entry 0 of the history is the tick's sample, the others of the first RS_T shift by one, the rest stay,
RS_POS loses RS_L; while STREAMING all else is what the TICK row does, and the sample is the one that row shows (45_rate_converter.md R304,
44_multiplex_composer.md R290; the TICK row run alone is log 3). -/
def Obligations.HistoryShiftsByOne : Prop :=
  ∀ s : State,
    (∀ k : Fin 64, (rsInput s).conv.hist[k] =
      if k.val = 0 then BitVec.ofInt 24 (tick s).1
      else if k.val < s.conv.entry.t.val then s.conv.hist[k.val - 1]'(by omega) else s.conv.hist[k]) ∧
    (rsInput s).conv.entry = s.conv.entry ∧
    (s.conv.entry.l.val ≤ s.conv.pos.toNat → (rsInput s).conv.pos.toNat + s.conv.entry.l.val = s.conv.pos.toNat) ∧
    (s.pipe.stream = .streaming →
      ∃ t, exec .tick s = .next t ∧ t.out = { s.out with engine := .sample ((rsInput s).conv.hist[(0 : Fin 64)]) } ∧
        rsInput s = (t.setConv (rsInput s).conv).setOut s.out)

/-! ### Delivery -/

/-- A sink take in IDLE returns (0, 0x00000000) and changes no state (46_delivery_pipeline.md R337). -/
def Obligations.TakeInIdleReturnsZero : Prop :=
  ∀ s : State, s.pipe.stream = .idle → exec .sinkTake s = .next (s.setOut { s.out with sample := some (0, 0) })

/-- A sink take inside a buffer: one tick in file mode, one rs_out in live mode, the sample in both output forms, BUF_POS one more
(46_delivery_pipeline.md R336, 30_encoding.md R115). -/
def Obligations.TakeDeliversOneSample : Prop :=
  ∀ s : State, s.pipe.stream = .streaming → s.pipe.bufPos + 1 ≠ s.pipe.bufLenAct →
    (s.pipe.liveAct = false →
      exec .sinkTake s = .next (((tick s).2.setPipe { s.pipe with bufPos := s.pipe.bufPos + 1 }).setOut
        { s.out with sample := some (BitVec.ofInt 24 (tick s).1, fileWord s.par.fileScale (tick s).1) })) ∧
    (s.pipe.liveAct = true →
      exec .sinkTake s = .next (((rsOut s).2.setPipe { s.pipe with bufPos := s.pipe.bufPos + 1 }).setOut
        { s.out with sample := some (BitVec.ofInt 24 (rsOut s).1, f32OfQ (rsOut s).1) }))

/-- The sink take that fills a buffer: the sample is delivered, the monitors are latched, the accumulators and BUF_POS cleared, and a
waiting STOP tears the stream down (46_delivery_pipeline.md R336, R339). -/
def Obligations.TakeCompletesTheBuffer : Prop :=
  ∀ (s : State) (r : Int × State) (m : Monitors) (u : State), s.pipe.stream = .streaming →
    s.pipe.bufPos + 1 = s.pipe.bufLenAct → r = (if s.pipe.liveAct then rsOut s else tick s) →
    m = ⟨r.2.acc.peak, r.2.acc.sumsq, r.2.acc.n, r.2.acc.pkMono, r.2.acc.pkStereo, r.2.acc.pkPilot, r.2.acc.pkRds,
      2949, r.2.ac.audio.rdsLevel, r.2.cond.gc, r.2.cond.lg⟩ →
    u = (((r.2.setPipe { s.pipe with bufPos := 0 }).setMon m).setAcc ⟨0, 0, 0, 0, 0, 0, 0⟩).setOut
      { s.out with sample := some (BitVec.ofInt 24 r.1,
        if s.pipe.liveAct then f32OfQ r.1 else fileWord s.par.fileScale r.1) } →
    (s.pipe.stopReq = false → exec .sinkTake s = .next u) ∧
    (s.pipe.stopReq = true → ∃ t, exec .sinkTake s = .next t ∧ TornDown u t)

/-- SINK_FAIL: in IDLE nothing; while STREAMING the teardown, then SinkError 18 (46_delivery_pipeline.md R342). -/
def Obligations.SinkFailTearsDownThenReports : Prop :=
  ∀ s : State,
    (s.pipe.stream = .idle → exec .sinkFail s = .next s) ∧
    (s.pipe.stream = .streaming → ∃ u, TornDown s u ∧
      exec .sinkFail s = .next (u.setCtl { s.ctl with err := s.ctl.err ||| 0x02#7, errInfo := 18 }))

/-- f32_of_q: the binary32 word of v / 2^23, exact: sign, exponent 104 + e, and a fraction with 2^23 + fraction = |v| * 2^(23 - e)
(30_encoding.md R116). The default FILE_SCALE is this word, and every FILE_SCALE gives 0 for 0 (00_scope.md R8). -/
def Obligations.OutputWordIsExact : Prop :=
  f32OfQ 0 = 0 ∧ (∀ fs : FileScale, fileWord fs 0 = 0) ∧ (∀ v : Int, fileWord .unit v = f32OfQ v) ∧
  (∀ v : Int, v ≠ 0 → -8388608 ≤ v → v ≤ 8388607 →
    ∃ e frac : Nat, e ≤ 23 ∧ 2 ^ e ≤ v.natAbs ∧ v.natAbs < 2 ^ (e + 1) ∧ frac < 2 ^ 23 ∧
      2 ^ 23 + frac = v.natAbs * 2 ^ (23 - e) ∧
      (f32OfQ v).toNat = (if v < 0 then 2 ^ 31 else 0) + (104 + e) * 2 ^ 23 + frac)

/-- Restart: two machines in IDLE with the same parameters, active configuration, RT_AB, mode registers and environment deliver the same
samples after START, whatever their old streams, shadow copies, errors and counters were (46_delivery_pipeline.md R347,
41_group_encoder.md R190). -/
def Obligations.RestartIsFresh : Prop :=
  ∀ (g : BitVec 24) (s1 s2 t1 t2 : State) (n : Nat),
    s1.pipe.stream = .idle → s2.pipe.stream = .idle → s1.flags = s2.flags →
    s1.flags.pendRds = false → s1.flags.pendAud = false →
    s1.ac = s2.ac → s1.par = s2.par → s1.world = s2.world →
    s1.ctl.live = s2.ctl.live → s1.ctl.outRate = s2.ctl.outRate → s1.ctl.bufLen = s2.ctl.bufLen →
    exec (.start g) s1 = .next t1 → exec (.start g) s2 = .next t2 → t1.pipe.stream = .streaming →
    t2.pipe.stream = .streaming ∧ takeSamples n t1 = takeSamples n t2

/-! ### The invariant -/

/-- The invariant holds after a hardware reset (10_state.md R61, 00_scope.md R8). -/
def Obligations.InvariantHoldsAtReset : Prop := Invariant State.reset

/-- Every step of every agent keeps the invariant. -/
def Obligations.InvariantIsKeptByEveryStep : Prop := ∀ s t : State, Invariant s → step s = .next t → Invariant t
end

