-- ==== Sys2Proof/Laws/State.lean ====
section
/-! SUPPORT. One lemma per part of the state per named update. -/

namespace Sys2Proof.Machine

@[simp] theorem State.setCtl_ctl (s : State) (v : Control) : (s.setCtl v).ctl = v := rfl
@[simp] theorem State.setCtl_sh (s : State) (v : Control) : (s.setCtl v).sh = s.sh := rfl
@[simp] theorem State.setCtl_pe (s : State) (v : Control) : (s.setCtl v).pe = s.pe := rfl
@[simp] theorem State.setCtl_ac (s : State) (v : Control) : (s.setCtl v).ac = s.ac := rfl
@[simp] theorem State.setCtl_flags (s : State) (v : Control) : (s.setCtl v).flags = s.flags := rfl
@[simp] theorem State.setCtl_cur (s : State) (v : Control) : (s.setCtl v).cur = s.cur := rfl
@[simp] theorem State.setCtl_modu (s : State) (v : Control) : (s.setCtl v).modu = s.modu := rfl
@[simp] theorem State.setCtl_cond (s : State) (v : Control) : (s.setCtl v).cond = s.cond := rfl
@[simp] theorem State.setCtl_conv (s : State) (v : Control) : (s.setCtl v).conv = s.conv := rfl
@[simp] theorem State.setCtl_pipe (s : State) (v : Control) : (s.setCtl v).pipe = s.pipe := rfl
@[simp] theorem State.setCtl_acc (s : State) (v : Control) : (s.setCtl v).acc = s.acc := rfl
@[simp] theorem State.setCtl_mon (s : State) (v : Control) : (s.setCtl v).mon = s.mon := rfl
@[simp] theorem State.setCtl_cnt (s : State) (v : Control) : (s.setCtl v).cnt = s.cnt := rfl
@[simp] theorem State.setCtl_out (s : State) (v : Control) : (s.setCtl v).out = s.out := rfl
@[simp] theorem State.setCtl_world (s : State) (v : Control) : (s.setCtl v).world = s.world := rfl
@[simp] theorem State.setCtl_par (s : State) (v : Control) : (s.setCtl v).par = s.par := rfl

@[simp] theorem State.setSh_ctl (s : State) (v : Settings) : (s.setSh v).ctl = s.ctl := rfl
@[simp] theorem State.setSh_sh (s : State) (v : Settings) : (s.setSh v).sh = v := rfl
@[simp] theorem State.setSh_pe (s : State) (v : Settings) : (s.setSh v).pe = s.pe := rfl
@[simp] theorem State.setSh_ac (s : State) (v : Settings) : (s.setSh v).ac = s.ac := rfl
@[simp] theorem State.setSh_flags (s : State) (v : Settings) : (s.setSh v).flags = s.flags := rfl
@[simp] theorem State.setSh_cur (s : State) (v : Settings) : (s.setSh v).cur = s.cur := rfl
@[simp] theorem State.setSh_modu (s : State) (v : Settings) : (s.setSh v).modu = s.modu := rfl
@[simp] theorem State.setSh_cond (s : State) (v : Settings) : (s.setSh v).cond = s.cond := rfl
@[simp] theorem State.setSh_conv (s : State) (v : Settings) : (s.setSh v).conv = s.conv := rfl
@[simp] theorem State.setSh_pipe (s : State) (v : Settings) : (s.setSh v).pipe = s.pipe := rfl
@[simp] theorem State.setSh_acc (s : State) (v : Settings) : (s.setSh v).acc = s.acc := rfl
@[simp] theorem State.setSh_mon (s : State) (v : Settings) : (s.setSh v).mon = s.mon := rfl
@[simp] theorem State.setSh_cnt (s : State) (v : Settings) : (s.setSh v).cnt = s.cnt := rfl
@[simp] theorem State.setSh_out (s : State) (v : Settings) : (s.setSh v).out = s.out := rfl
@[simp] theorem State.setSh_world (s : State) (v : Settings) : (s.setSh v).world = s.world := rfl
@[simp] theorem State.setSh_par (s : State) (v : Settings) : (s.setSh v).par = s.par := rfl

@[simp] theorem State.setPe_ctl (s : State) (v : Settings) : (s.setPe v).ctl = s.ctl := rfl
@[simp] theorem State.setPe_sh (s : State) (v : Settings) : (s.setPe v).sh = s.sh := rfl
@[simp] theorem State.setPe_pe (s : State) (v : Settings) : (s.setPe v).pe = v := rfl
@[simp] theorem State.setPe_ac (s : State) (v : Settings) : (s.setPe v).ac = s.ac := rfl
@[simp] theorem State.setPe_flags (s : State) (v : Settings) : (s.setPe v).flags = s.flags := rfl
@[simp] theorem State.setPe_cur (s : State) (v : Settings) : (s.setPe v).cur = s.cur := rfl
@[simp] theorem State.setPe_modu (s : State) (v : Settings) : (s.setPe v).modu = s.modu := rfl
@[simp] theorem State.setPe_cond (s : State) (v : Settings) : (s.setPe v).cond = s.cond := rfl
@[simp] theorem State.setPe_conv (s : State) (v : Settings) : (s.setPe v).conv = s.conv := rfl
@[simp] theorem State.setPe_pipe (s : State) (v : Settings) : (s.setPe v).pipe = s.pipe := rfl
@[simp] theorem State.setPe_acc (s : State) (v : Settings) : (s.setPe v).acc = s.acc := rfl
@[simp] theorem State.setPe_mon (s : State) (v : Settings) : (s.setPe v).mon = s.mon := rfl
@[simp] theorem State.setPe_cnt (s : State) (v : Settings) : (s.setPe v).cnt = s.cnt := rfl
@[simp] theorem State.setPe_out (s : State) (v : Settings) : (s.setPe v).out = s.out := rfl
@[simp] theorem State.setPe_world (s : State) (v : Settings) : (s.setPe v).world = s.world := rfl
@[simp] theorem State.setPe_par (s : State) (v : Settings) : (s.setPe v).par = s.par := rfl

@[simp] theorem State.setAc_ctl (s : State) (v : Settings) : (s.setAc v).ctl = s.ctl := rfl
@[simp] theorem State.setAc_sh (s : State) (v : Settings) : (s.setAc v).sh = s.sh := rfl
@[simp] theorem State.setAc_pe (s : State) (v : Settings) : (s.setAc v).pe = s.pe := rfl
@[simp] theorem State.setAc_ac (s : State) (v : Settings) : (s.setAc v).ac = v := rfl
@[simp] theorem State.setAc_flags (s : State) (v : Settings) : (s.setAc v).flags = s.flags := rfl
@[simp] theorem State.setAc_cur (s : State) (v : Settings) : (s.setAc v).cur = s.cur := rfl
@[simp] theorem State.setAc_modu (s : State) (v : Settings) : (s.setAc v).modu = s.modu := rfl
@[simp] theorem State.setAc_cond (s : State) (v : Settings) : (s.setAc v).cond = s.cond := rfl
@[simp] theorem State.setAc_conv (s : State) (v : Settings) : (s.setAc v).conv = s.conv := rfl
@[simp] theorem State.setAc_pipe (s : State) (v : Settings) : (s.setAc v).pipe = s.pipe := rfl
@[simp] theorem State.setAc_acc (s : State) (v : Settings) : (s.setAc v).acc = s.acc := rfl
@[simp] theorem State.setAc_mon (s : State) (v : Settings) : (s.setAc v).mon = s.mon := rfl
@[simp] theorem State.setAc_cnt (s : State) (v : Settings) : (s.setAc v).cnt = s.cnt := rfl
@[simp] theorem State.setAc_out (s : State) (v : Settings) : (s.setAc v).out = s.out := rfl
@[simp] theorem State.setAc_world (s : State) (v : Settings) : (s.setAc v).world = s.world := rfl
@[simp] theorem State.setAc_par (s : State) (v : Settings) : (s.setAc v).par = s.par := rfl

@[simp] theorem State.setFlags_ctl (s : State) (v : CommitFlags) : (s.setFlags v).ctl = s.ctl := rfl
@[simp] theorem State.setFlags_sh (s : State) (v : CommitFlags) : (s.setFlags v).sh = s.sh := rfl
@[simp] theorem State.setFlags_pe (s : State) (v : CommitFlags) : (s.setFlags v).pe = s.pe := rfl
@[simp] theorem State.setFlags_ac (s : State) (v : CommitFlags) : (s.setFlags v).ac = s.ac := rfl
@[simp] theorem State.setFlags_flags (s : State) (v : CommitFlags) : (s.setFlags v).flags = v := rfl
@[simp] theorem State.setFlags_cur (s : State) (v : CommitFlags) : (s.setFlags v).cur = s.cur := rfl
@[simp] theorem State.setFlags_modu (s : State) (v : CommitFlags) : (s.setFlags v).modu = s.modu := rfl
@[simp] theorem State.setFlags_cond (s : State) (v : CommitFlags) : (s.setFlags v).cond = s.cond := rfl
@[simp] theorem State.setFlags_conv (s : State) (v : CommitFlags) : (s.setFlags v).conv = s.conv := rfl
@[simp] theorem State.setFlags_pipe (s : State) (v : CommitFlags) : (s.setFlags v).pipe = s.pipe := rfl
@[simp] theorem State.setFlags_acc (s : State) (v : CommitFlags) : (s.setFlags v).acc = s.acc := rfl
@[simp] theorem State.setFlags_mon (s : State) (v : CommitFlags) : (s.setFlags v).mon = s.mon := rfl
@[simp] theorem State.setFlags_cnt (s : State) (v : CommitFlags) : (s.setFlags v).cnt = s.cnt := rfl
@[simp] theorem State.setFlags_out (s : State) (v : CommitFlags) : (s.setFlags v).out = s.out := rfl
@[simp] theorem State.setFlags_world (s : State) (v : CommitFlags) : (s.setFlags v).world = s.world := rfl
@[simp] theorem State.setFlags_par (s : State) (v : CommitFlags) : (s.setFlags v).par = s.par := rfl

@[simp] theorem State.setCur_ctl (s : State) (v : Cursor) : (s.setCur v).ctl = s.ctl := rfl
@[simp] theorem State.setCur_sh (s : State) (v : Cursor) : (s.setCur v).sh = s.sh := rfl
@[simp] theorem State.setCur_pe (s : State) (v : Cursor) : (s.setCur v).pe = s.pe := rfl
@[simp] theorem State.setCur_ac (s : State) (v : Cursor) : (s.setCur v).ac = s.ac := rfl
@[simp] theorem State.setCur_flags (s : State) (v : Cursor) : (s.setCur v).flags = s.flags := rfl
@[simp] theorem State.setCur_cur (s : State) (v : Cursor) : (s.setCur v).cur = v := rfl
@[simp] theorem State.setCur_modu (s : State) (v : Cursor) : (s.setCur v).modu = s.modu := rfl
@[simp] theorem State.setCur_cond (s : State) (v : Cursor) : (s.setCur v).cond = s.cond := rfl
@[simp] theorem State.setCur_conv (s : State) (v : Cursor) : (s.setCur v).conv = s.conv := rfl
@[simp] theorem State.setCur_pipe (s : State) (v : Cursor) : (s.setCur v).pipe = s.pipe := rfl
@[simp] theorem State.setCur_acc (s : State) (v : Cursor) : (s.setCur v).acc = s.acc := rfl
@[simp] theorem State.setCur_mon (s : State) (v : Cursor) : (s.setCur v).mon = s.mon := rfl
@[simp] theorem State.setCur_cnt (s : State) (v : Cursor) : (s.setCur v).cnt = s.cnt := rfl
@[simp] theorem State.setCur_out (s : State) (v : Cursor) : (s.setCur v).out = s.out := rfl
@[simp] theorem State.setCur_world (s : State) (v : Cursor) : (s.setCur v).world = s.world := rfl
@[simp] theorem State.setCur_par (s : State) (v : Cursor) : (s.setCur v).par = s.par := rfl

@[simp] theorem State.setModu_ctl (s : State) (v : Modulator) : (s.setModu v).ctl = s.ctl := rfl
@[simp] theorem State.setModu_sh (s : State) (v : Modulator) : (s.setModu v).sh = s.sh := rfl
@[simp] theorem State.setModu_pe (s : State) (v : Modulator) : (s.setModu v).pe = s.pe := rfl
@[simp] theorem State.setModu_ac (s : State) (v : Modulator) : (s.setModu v).ac = s.ac := rfl
@[simp] theorem State.setModu_flags (s : State) (v : Modulator) : (s.setModu v).flags = s.flags := rfl
@[simp] theorem State.setModu_cur (s : State) (v : Modulator) : (s.setModu v).cur = s.cur := rfl
@[simp] theorem State.setModu_modu (s : State) (v : Modulator) : (s.setModu v).modu = v := rfl
@[simp] theorem State.setModu_cond (s : State) (v : Modulator) : (s.setModu v).cond = s.cond := rfl
@[simp] theorem State.setModu_conv (s : State) (v : Modulator) : (s.setModu v).conv = s.conv := rfl
@[simp] theorem State.setModu_pipe (s : State) (v : Modulator) : (s.setModu v).pipe = s.pipe := rfl
@[simp] theorem State.setModu_acc (s : State) (v : Modulator) : (s.setModu v).acc = s.acc := rfl
@[simp] theorem State.setModu_mon (s : State) (v : Modulator) : (s.setModu v).mon = s.mon := rfl
@[simp] theorem State.setModu_cnt (s : State) (v : Modulator) : (s.setModu v).cnt = s.cnt := rfl
@[simp] theorem State.setModu_out (s : State) (v : Modulator) : (s.setModu v).out = s.out := rfl
@[simp] theorem State.setModu_world (s : State) (v : Modulator) : (s.setModu v).world = s.world := rfl
@[simp] theorem State.setModu_par (s : State) (v : Modulator) : (s.setModu v).par = s.par := rfl

@[simp] theorem State.setCond_ctl (s : State) (v : Conditioning) : (s.setCond v).ctl = s.ctl := rfl
@[simp] theorem State.setCond_sh (s : State) (v : Conditioning) : (s.setCond v).sh = s.sh := rfl
@[simp] theorem State.setCond_pe (s : State) (v : Conditioning) : (s.setCond v).pe = s.pe := rfl
@[simp] theorem State.setCond_ac (s : State) (v : Conditioning) : (s.setCond v).ac = s.ac := rfl
@[simp] theorem State.setCond_flags (s : State) (v : Conditioning) : (s.setCond v).flags = s.flags := rfl
@[simp] theorem State.setCond_cur (s : State) (v : Conditioning) : (s.setCond v).cur = s.cur := rfl
@[simp] theorem State.setCond_modu (s : State) (v : Conditioning) : (s.setCond v).modu = s.modu := rfl
@[simp] theorem State.setCond_cond (s : State) (v : Conditioning) : (s.setCond v).cond = v := rfl
@[simp] theorem State.setCond_conv (s : State) (v : Conditioning) : (s.setCond v).conv = s.conv := rfl
@[simp] theorem State.setCond_pipe (s : State) (v : Conditioning) : (s.setCond v).pipe = s.pipe := rfl
@[simp] theorem State.setCond_acc (s : State) (v : Conditioning) : (s.setCond v).acc = s.acc := rfl
@[simp] theorem State.setCond_mon (s : State) (v : Conditioning) : (s.setCond v).mon = s.mon := rfl
@[simp] theorem State.setCond_cnt (s : State) (v : Conditioning) : (s.setCond v).cnt = s.cnt := rfl
@[simp] theorem State.setCond_out (s : State) (v : Conditioning) : (s.setCond v).out = s.out := rfl
@[simp] theorem State.setCond_world (s : State) (v : Conditioning) : (s.setCond v).world = s.world := rfl
@[simp] theorem State.setCond_par (s : State) (v : Conditioning) : (s.setCond v).par = s.par := rfl

@[simp] theorem State.setConv_ctl (s : State) (v : Converter) : (s.setConv v).ctl = s.ctl := rfl
@[simp] theorem State.setConv_sh (s : State) (v : Converter) : (s.setConv v).sh = s.sh := rfl
@[simp] theorem State.setConv_pe (s : State) (v : Converter) : (s.setConv v).pe = s.pe := rfl
@[simp] theorem State.setConv_ac (s : State) (v : Converter) : (s.setConv v).ac = s.ac := rfl
@[simp] theorem State.setConv_flags (s : State) (v : Converter) : (s.setConv v).flags = s.flags := rfl
@[simp] theorem State.setConv_cur (s : State) (v : Converter) : (s.setConv v).cur = s.cur := rfl
@[simp] theorem State.setConv_modu (s : State) (v : Converter) : (s.setConv v).modu = s.modu := rfl
@[simp] theorem State.setConv_cond (s : State) (v : Converter) : (s.setConv v).cond = s.cond := rfl
@[simp] theorem State.setConv_conv (s : State) (v : Converter) : (s.setConv v).conv = v := rfl
@[simp] theorem State.setConv_pipe (s : State) (v : Converter) : (s.setConv v).pipe = s.pipe := rfl
@[simp] theorem State.setConv_acc (s : State) (v : Converter) : (s.setConv v).acc = s.acc := rfl
@[simp] theorem State.setConv_mon (s : State) (v : Converter) : (s.setConv v).mon = s.mon := rfl
@[simp] theorem State.setConv_cnt (s : State) (v : Converter) : (s.setConv v).cnt = s.cnt := rfl
@[simp] theorem State.setConv_out (s : State) (v : Converter) : (s.setConv v).out = s.out := rfl
@[simp] theorem State.setConv_world (s : State) (v : Converter) : (s.setConv v).world = s.world := rfl
@[simp] theorem State.setConv_par (s : State) (v : Converter) : (s.setConv v).par = s.par := rfl

@[simp] theorem State.setPipe_ctl (s : State) (v : Pipeline) : (s.setPipe v).ctl = s.ctl := rfl
@[simp] theorem State.setPipe_sh (s : State) (v : Pipeline) : (s.setPipe v).sh = s.sh := rfl
@[simp] theorem State.setPipe_pe (s : State) (v : Pipeline) : (s.setPipe v).pe = s.pe := rfl
@[simp] theorem State.setPipe_ac (s : State) (v : Pipeline) : (s.setPipe v).ac = s.ac := rfl
@[simp] theorem State.setPipe_flags (s : State) (v : Pipeline) : (s.setPipe v).flags = s.flags := rfl
@[simp] theorem State.setPipe_cur (s : State) (v : Pipeline) : (s.setPipe v).cur = s.cur := rfl
@[simp] theorem State.setPipe_modu (s : State) (v : Pipeline) : (s.setPipe v).modu = s.modu := rfl
@[simp] theorem State.setPipe_cond (s : State) (v : Pipeline) : (s.setPipe v).cond = s.cond := rfl
@[simp] theorem State.setPipe_conv (s : State) (v : Pipeline) : (s.setPipe v).conv = s.conv := rfl
@[simp] theorem State.setPipe_pipe (s : State) (v : Pipeline) : (s.setPipe v).pipe = v := rfl
@[simp] theorem State.setPipe_acc (s : State) (v : Pipeline) : (s.setPipe v).acc = s.acc := rfl
@[simp] theorem State.setPipe_mon (s : State) (v : Pipeline) : (s.setPipe v).mon = s.mon := rfl
@[simp] theorem State.setPipe_cnt (s : State) (v : Pipeline) : (s.setPipe v).cnt = s.cnt := rfl
@[simp] theorem State.setPipe_out (s : State) (v : Pipeline) : (s.setPipe v).out = s.out := rfl
@[simp] theorem State.setPipe_world (s : State) (v : Pipeline) : (s.setPipe v).world = s.world := rfl
@[simp] theorem State.setPipe_par (s : State) (v : Pipeline) : (s.setPipe v).par = s.par := rfl

@[simp] theorem State.setAcc_ctl (s : State) (v : Accumulators) : (s.setAcc v).ctl = s.ctl := rfl
@[simp] theorem State.setAcc_sh (s : State) (v : Accumulators) : (s.setAcc v).sh = s.sh := rfl
@[simp] theorem State.setAcc_pe (s : State) (v : Accumulators) : (s.setAcc v).pe = s.pe := rfl
@[simp] theorem State.setAcc_ac (s : State) (v : Accumulators) : (s.setAcc v).ac = s.ac := rfl
@[simp] theorem State.setAcc_flags (s : State) (v : Accumulators) : (s.setAcc v).flags = s.flags := rfl
@[simp] theorem State.setAcc_cur (s : State) (v : Accumulators) : (s.setAcc v).cur = s.cur := rfl
@[simp] theorem State.setAcc_modu (s : State) (v : Accumulators) : (s.setAcc v).modu = s.modu := rfl
@[simp] theorem State.setAcc_cond (s : State) (v : Accumulators) : (s.setAcc v).cond = s.cond := rfl
@[simp] theorem State.setAcc_conv (s : State) (v : Accumulators) : (s.setAcc v).conv = s.conv := rfl
@[simp] theorem State.setAcc_pipe (s : State) (v : Accumulators) : (s.setAcc v).pipe = s.pipe := rfl
@[simp] theorem State.setAcc_acc (s : State) (v : Accumulators) : (s.setAcc v).acc = v := rfl
@[simp] theorem State.setAcc_mon (s : State) (v : Accumulators) : (s.setAcc v).mon = s.mon := rfl
@[simp] theorem State.setAcc_cnt (s : State) (v : Accumulators) : (s.setAcc v).cnt = s.cnt := rfl
@[simp] theorem State.setAcc_out (s : State) (v : Accumulators) : (s.setAcc v).out = s.out := rfl
@[simp] theorem State.setAcc_world (s : State) (v : Accumulators) : (s.setAcc v).world = s.world := rfl
@[simp] theorem State.setAcc_par (s : State) (v : Accumulators) : (s.setAcc v).par = s.par := rfl

@[simp] theorem State.setMon_ctl (s : State) (v : Monitors) : (s.setMon v).ctl = s.ctl := rfl
@[simp] theorem State.setMon_sh (s : State) (v : Monitors) : (s.setMon v).sh = s.sh := rfl
@[simp] theorem State.setMon_pe (s : State) (v : Monitors) : (s.setMon v).pe = s.pe := rfl
@[simp] theorem State.setMon_ac (s : State) (v : Monitors) : (s.setMon v).ac = s.ac := rfl
@[simp] theorem State.setMon_flags (s : State) (v : Monitors) : (s.setMon v).flags = s.flags := rfl
@[simp] theorem State.setMon_cur (s : State) (v : Monitors) : (s.setMon v).cur = s.cur := rfl
@[simp] theorem State.setMon_modu (s : State) (v : Monitors) : (s.setMon v).modu = s.modu := rfl
@[simp] theorem State.setMon_cond (s : State) (v : Monitors) : (s.setMon v).cond = s.cond := rfl
@[simp] theorem State.setMon_conv (s : State) (v : Monitors) : (s.setMon v).conv = s.conv := rfl
@[simp] theorem State.setMon_pipe (s : State) (v : Monitors) : (s.setMon v).pipe = s.pipe := rfl
@[simp] theorem State.setMon_acc (s : State) (v : Monitors) : (s.setMon v).acc = s.acc := rfl
@[simp] theorem State.setMon_mon (s : State) (v : Monitors) : (s.setMon v).mon = v := rfl
@[simp] theorem State.setMon_cnt (s : State) (v : Monitors) : (s.setMon v).cnt = s.cnt := rfl
@[simp] theorem State.setMon_out (s : State) (v : Monitors) : (s.setMon v).out = s.out := rfl
@[simp] theorem State.setMon_world (s : State) (v : Monitors) : (s.setMon v).world = s.world := rfl
@[simp] theorem State.setMon_par (s : State) (v : Monitors) : (s.setMon v).par = s.par := rfl

@[simp] theorem State.setCnt_ctl (s : State) (v : Counters) : (s.setCnt v).ctl = s.ctl := rfl
@[simp] theorem State.setCnt_sh (s : State) (v : Counters) : (s.setCnt v).sh = s.sh := rfl
@[simp] theorem State.setCnt_pe (s : State) (v : Counters) : (s.setCnt v).pe = s.pe := rfl
@[simp] theorem State.setCnt_ac (s : State) (v : Counters) : (s.setCnt v).ac = s.ac := rfl
@[simp] theorem State.setCnt_flags (s : State) (v : Counters) : (s.setCnt v).flags = s.flags := rfl
@[simp] theorem State.setCnt_cur (s : State) (v : Counters) : (s.setCnt v).cur = s.cur := rfl
@[simp] theorem State.setCnt_modu (s : State) (v : Counters) : (s.setCnt v).modu = s.modu := rfl
@[simp] theorem State.setCnt_cond (s : State) (v : Counters) : (s.setCnt v).cond = s.cond := rfl
@[simp] theorem State.setCnt_conv (s : State) (v : Counters) : (s.setCnt v).conv = s.conv := rfl
@[simp] theorem State.setCnt_pipe (s : State) (v : Counters) : (s.setCnt v).pipe = s.pipe := rfl
@[simp] theorem State.setCnt_acc (s : State) (v : Counters) : (s.setCnt v).acc = s.acc := rfl
@[simp] theorem State.setCnt_mon (s : State) (v : Counters) : (s.setCnt v).mon = s.mon := rfl
@[simp] theorem State.setCnt_cnt (s : State) (v : Counters) : (s.setCnt v).cnt = v := rfl
@[simp] theorem State.setCnt_out (s : State) (v : Counters) : (s.setCnt v).out = s.out := rfl
@[simp] theorem State.setCnt_world (s : State) (v : Counters) : (s.setCnt v).world = s.world := rfl
@[simp] theorem State.setCnt_par (s : State) (v : Counters) : (s.setCnt v).par = s.par := rfl

@[simp] theorem State.setOut_ctl (s : State) (v : Outputs) : (s.setOut v).ctl = s.ctl := rfl
@[simp] theorem State.setOut_sh (s : State) (v : Outputs) : (s.setOut v).sh = s.sh := rfl
@[simp] theorem State.setOut_pe (s : State) (v : Outputs) : (s.setOut v).pe = s.pe := rfl
@[simp] theorem State.setOut_ac (s : State) (v : Outputs) : (s.setOut v).ac = s.ac := rfl
@[simp] theorem State.setOut_flags (s : State) (v : Outputs) : (s.setOut v).flags = s.flags := rfl
@[simp] theorem State.setOut_cur (s : State) (v : Outputs) : (s.setOut v).cur = s.cur := rfl
@[simp] theorem State.setOut_modu (s : State) (v : Outputs) : (s.setOut v).modu = s.modu := rfl
@[simp] theorem State.setOut_cond (s : State) (v : Outputs) : (s.setOut v).cond = s.cond := rfl
@[simp] theorem State.setOut_conv (s : State) (v : Outputs) : (s.setOut v).conv = s.conv := rfl
@[simp] theorem State.setOut_pipe (s : State) (v : Outputs) : (s.setOut v).pipe = s.pipe := rfl
@[simp] theorem State.setOut_acc (s : State) (v : Outputs) : (s.setOut v).acc = s.acc := rfl
@[simp] theorem State.setOut_mon (s : State) (v : Outputs) : (s.setOut v).mon = s.mon := rfl
@[simp] theorem State.setOut_cnt (s : State) (v : Outputs) : (s.setOut v).cnt = s.cnt := rfl
@[simp] theorem State.setOut_out (s : State) (v : Outputs) : (s.setOut v).out = v := rfl
@[simp] theorem State.setOut_world (s : State) (v : Outputs) : (s.setOut v).world = s.world := rfl
@[simp] theorem State.setOut_par (s : State) (v : Outputs) : (s.setOut v).par = s.par := rfl

@[simp] theorem State.setWorld_ctl (s : State) (v : World) : (s.setWorld v).ctl = s.ctl := rfl
@[simp] theorem State.setWorld_sh (s : State) (v : World) : (s.setWorld v).sh = s.sh := rfl
@[simp] theorem State.setWorld_pe (s : State) (v : World) : (s.setWorld v).pe = s.pe := rfl
@[simp] theorem State.setWorld_ac (s : State) (v : World) : (s.setWorld v).ac = s.ac := rfl
@[simp] theorem State.setWorld_flags (s : State) (v : World) : (s.setWorld v).flags = s.flags := rfl
@[simp] theorem State.setWorld_cur (s : State) (v : World) : (s.setWorld v).cur = s.cur := rfl
@[simp] theorem State.setWorld_modu (s : State) (v : World) : (s.setWorld v).modu = s.modu := rfl
@[simp] theorem State.setWorld_cond (s : State) (v : World) : (s.setWorld v).cond = s.cond := rfl
@[simp] theorem State.setWorld_conv (s : State) (v : World) : (s.setWorld v).conv = s.conv := rfl
@[simp] theorem State.setWorld_pipe (s : State) (v : World) : (s.setWorld v).pipe = s.pipe := rfl
@[simp] theorem State.setWorld_acc (s : State) (v : World) : (s.setWorld v).acc = s.acc := rfl
@[simp] theorem State.setWorld_mon (s : State) (v : World) : (s.setWorld v).mon = s.mon := rfl
@[simp] theorem State.setWorld_cnt (s : State) (v : World) : (s.setWorld v).cnt = s.cnt := rfl
@[simp] theorem State.setWorld_out (s : State) (v : World) : (s.setWorld v).out = s.out := rfl
@[simp] theorem State.setWorld_world (s : State) (v : World) : (s.setWorld v).world = v := rfl
@[simp] theorem State.setWorld_par (s : State) (v : World) : (s.setWorld v).par = s.par := rfl

@[simp] theorem State.withPar_ctl (s : State) (v : Params) : (s.withPar v).ctl = s.ctl := rfl
@[simp] theorem State.withPar_sh (s : State) (v : Params) : (s.withPar v).sh = s.sh := rfl
@[simp] theorem State.withPar_pe (s : State) (v : Params) : (s.withPar v).pe = s.pe := rfl
@[simp] theorem State.withPar_ac (s : State) (v : Params) : (s.withPar v).ac = s.ac := rfl
@[simp] theorem State.withPar_flags (s : State) (v : Params) : (s.withPar v).flags = s.flags := rfl
@[simp] theorem State.withPar_cur (s : State) (v : Params) : (s.withPar v).cur = s.cur := rfl
@[simp] theorem State.withPar_modu (s : State) (v : Params) : (s.withPar v).modu = s.modu := rfl
@[simp] theorem State.withPar_cond (s : State) (v : Params) : (s.withPar v).cond = s.cond := rfl
@[simp] theorem State.withPar_conv (s : State) (v : Params) : (s.withPar v).conv = s.conv := rfl
@[simp] theorem State.withPar_pipe (s : State) (v : Params) : (s.withPar v).pipe = s.pipe := rfl
@[simp] theorem State.withPar_acc (s : State) (v : Params) : (s.withPar v).acc = s.acc := rfl
@[simp] theorem State.withPar_mon (s : State) (v : Params) : (s.withPar v).mon = s.mon := rfl
@[simp] theorem State.withPar_cnt (s : State) (v : Params) : (s.withPar v).cnt = s.cnt := rfl
@[simp] theorem State.withPar_out (s : State) (v : Params) : (s.withPar v).out = s.out := rfl
@[simp] theorem State.withPar_world (s : State) (v : Params) : (s.withPar v).world = s.world := rfl
@[simp] theorem State.withPar_par (s : State) (v : Params) : (s.withPar v).par = v := rfl

end Sys2Proof.Machine
end

