-- ==== Sys2Proof/Laws/FrameOps.lean ====
section
/-! SUPPORT. Frames of the shared operations: one lemma per part of the state an operation leaves as it was. -/

namespace Sys2Proof.Machine

@[simp] theorem bumpDraws_ctl (s : State) : (bumpDraws s).ctl = s.ctl := rfl
@[simp] theorem bumpDraws_sh (s : State) : (bumpDraws s).sh = s.sh := rfl
@[simp] theorem bumpDraws_pe (s : State) : (bumpDraws s).pe = s.pe := rfl
@[simp] theorem bumpDraws_ac (s : State) : (bumpDraws s).ac = s.ac := rfl
@[simp] theorem bumpDraws_flags (s : State) : (bumpDraws s).flags = s.flags := rfl
@[simp] theorem bumpDraws_cur (s : State) : (bumpDraws s).cur = s.cur := rfl
@[simp] theorem bumpDraws_modu (s : State) : (bumpDraws s).modu = s.modu := rfl
@[simp] theorem bumpDraws_cond (s : State) : (bumpDraws s).cond = s.cond := rfl
@[simp] theorem bumpDraws_conv (s : State) : (bumpDraws s).conv = s.conv := rfl
@[simp] theorem bumpDraws_pipe (s : State) : (bumpDraws s).pipe = s.pipe := rfl
@[simp] theorem bumpDraws_acc (s : State) : (bumpDraws s).acc = s.acc := rfl
@[simp] theorem bumpDraws_mon (s : State) : (bumpDraws s).mon = s.mon := rfl
@[simp] theorem bumpDraws_cnt (s : State) : (bumpDraws s).cnt = s.cnt := rfl
@[simp] theorem bumpDraws_out (s : State) : (bumpDraws s).out = s.out := rfl
@[simp] theorem bumpDraws_par (s : State) : (bumpDraws s).par = s.par := rfl

@[simp] theorem drawAudio_ctl (s : State) : (drawAudio s).2.ctl = s.ctl := by unfold drawAudio; split <;> simp
@[simp] theorem drawAudio_sh (s : State) : (drawAudio s).2.sh = s.sh := by unfold drawAudio; split <;> simp
@[simp] theorem drawAudio_pe (s : State) : (drawAudio s).2.pe = s.pe := by unfold drawAudio; split <;> simp
@[simp] theorem drawAudio_ac (s : State) : (drawAudio s).2.ac = s.ac := by unfold drawAudio; split <;> simp
@[simp] theorem drawAudio_flags (s : State) : (drawAudio s).2.flags = s.flags := by unfold drawAudio; split <;> simp
@[simp] theorem drawAudio_cur (s : State) : (drawAudio s).2.cur = s.cur := by unfold drawAudio; split <;> simp
@[simp] theorem drawAudio_modu (s : State) : (drawAudio s).2.modu = s.modu := by unfold drawAudio; split <;> simp
@[simp] theorem drawAudio_cond (s : State) : (drawAudio s).2.cond = s.cond := by unfold drawAudio; split <;> simp
@[simp] theorem drawAudio_conv (s : State) : (drawAudio s).2.conv = s.conv := by unfold drawAudio; split <;> simp
@[simp] theorem drawAudio_pipe (s : State) : (drawAudio s).2.pipe = s.pipe := by unfold drawAudio; split <;> simp
@[simp] theorem drawAudio_acc (s : State) : (drawAudio s).2.acc = s.acc := by unfold drawAudio; split <;> simp
@[simp] theorem drawAudio_mon (s : State) : (drawAudio s).2.mon = s.mon := by unfold drawAudio; split <;> simp
@[simp] theorem drawAudio_cnt (s : State) : (drawAudio s).2.cnt = s.cnt := by unfold drawAudio; split <;> simp
@[simp] theorem drawAudio_out (s : State) : (drawAudio s).2.out = s.out := by unfold drawAudio; split <;> simp
@[simp] theorem drawAudio_par (s : State) : (drawAudio s).2.par = s.par := by unfold drawAudio; split <;> simp

@[simp] theorem drawSink_ctl (s : State) : (drawSink s).2.ctl = s.ctl := by unfold drawSink; split <;> simp
@[simp] theorem drawSink_sh (s : State) : (drawSink s).2.sh = s.sh := by unfold drawSink; split <;> simp
@[simp] theorem drawSink_pe (s : State) : (drawSink s).2.pe = s.pe := by unfold drawSink; split <;> simp
@[simp] theorem drawSink_ac (s : State) : (drawSink s).2.ac = s.ac := by unfold drawSink; split <;> simp
@[simp] theorem drawSink_flags (s : State) : (drawSink s).2.flags = s.flags := by unfold drawSink; split <;> simp
@[simp] theorem drawSink_cur (s : State) : (drawSink s).2.cur = s.cur := by unfold drawSink; split <;> simp
@[simp] theorem drawSink_modu (s : State) : (drawSink s).2.modu = s.modu := by unfold drawSink; split <;> simp
@[simp] theorem drawSink_cond (s : State) : (drawSink s).2.cond = s.cond := by unfold drawSink; split <;> simp
@[simp] theorem drawSink_conv (s : State) : (drawSink s).2.conv = s.conv := by unfold drawSink; split <;> simp
@[simp] theorem drawSink_pipe (s : State) : (drawSink s).2.pipe = s.pipe := by unfold drawSink; split <;> simp
@[simp] theorem drawSink_acc (s : State) : (drawSink s).2.acc = s.acc := by unfold drawSink; split <;> simp
@[simp] theorem drawSink_mon (s : State) : (drawSink s).2.mon = s.mon := by unfold drawSink; split <;> simp
@[simp] theorem drawSink_cnt (s : State) : (drawSink s).2.cnt = s.cnt := by unfold drawSink; split <;> simp
@[simp] theorem drawSink_out (s : State) : (drawSink s).2.out = s.out := by unfold drawSink; split <;> simp
@[simp] theorem drawSink_par (s : State) : (drawSink s).2.par = s.par := by unfold drawSink; split <;> simp

@[simp] theorem pulseRelease_ctl (s : State) : (pulseRelease s).ctl = s.ctl := rfl
@[simp] theorem pulseRelease_sh (s : State) : (pulseRelease s).sh = s.sh := rfl
@[simp] theorem pulseRelease_pe (s : State) : (pulseRelease s).pe = s.pe := rfl
@[simp] theorem pulseRelease_ac (s : State) : (pulseRelease s).ac = s.ac := rfl
@[simp] theorem pulseRelease_flags (s : State) : (pulseRelease s).flags = s.flags := rfl
@[simp] theorem pulseRelease_cur (s : State) : (pulseRelease s).cur = s.cur := rfl
@[simp] theorem pulseRelease_modu (s : State) : (pulseRelease s).modu = s.modu := rfl
@[simp] theorem pulseRelease_cond (s : State) : (pulseRelease s).cond = s.cond := rfl
@[simp] theorem pulseRelease_conv (s : State) : (pulseRelease s).conv = s.conv := rfl
@[simp] theorem pulseRelease_pipe (s : State) : (pulseRelease s).pipe = s.pipe := rfl
@[simp] theorem pulseRelease_acc (s : State) : (pulseRelease s).acc = s.acc := rfl
@[simp] theorem pulseRelease_mon (s : State) : (pulseRelease s).mon = s.mon := rfl
@[simp] theorem pulseRelease_cnt (s : State) : (pulseRelease s).cnt = s.cnt := rfl
@[simp] theorem pulseRelease_par (s : State) : (pulseRelease s).par = s.par := rfl
@[simp] theorem pulseRelease_world (s : State) : (pulseRelease s).world = s.world := rfl

@[simp] theorem sinkOpen_ctl (rate : Word) (live : Bool) (s : State) : (sinkOpen rate live s).2.ctl = s.ctl := by simp [sinkOpen]
@[simp] theorem sinkOpen_sh (rate : Word) (live : Bool) (s : State) : (sinkOpen rate live s).2.sh = s.sh := by simp [sinkOpen]
@[simp] theorem sinkOpen_pe (rate : Word) (live : Bool) (s : State) : (sinkOpen rate live s).2.pe = s.pe := by simp [sinkOpen]
@[simp] theorem sinkOpen_ac (rate : Word) (live : Bool) (s : State) : (sinkOpen rate live s).2.ac = s.ac := by simp [sinkOpen]
@[simp] theorem sinkOpen_flags (rate : Word) (live : Bool) (s : State) : (sinkOpen rate live s).2.flags = s.flags := by simp [sinkOpen]
@[simp] theorem sinkOpen_cur (rate : Word) (live : Bool) (s : State) : (sinkOpen rate live s).2.cur = s.cur := by simp [sinkOpen]
@[simp] theorem sinkOpen_modu (rate : Word) (live : Bool) (s : State) : (sinkOpen rate live s).2.modu = s.modu := by simp [sinkOpen]
@[simp] theorem sinkOpen_cond (rate : Word) (live : Bool) (s : State) : (sinkOpen rate live s).2.cond = s.cond := by simp [sinkOpen]
@[simp] theorem sinkOpen_conv (rate : Word) (live : Bool) (s : State) : (sinkOpen rate live s).2.conv = s.conv := by simp [sinkOpen]
@[simp] theorem sinkOpen_pipe (rate : Word) (live : Bool) (s : State) : (sinkOpen rate live s).2.pipe = s.pipe := by simp [sinkOpen]
@[simp] theorem sinkOpen_acc (rate : Word) (live : Bool) (s : State) : (sinkOpen rate live s).2.acc = s.acc := by simp [sinkOpen]
@[simp] theorem sinkOpen_mon (rate : Word) (live : Bool) (s : State) : (sinkOpen rate live s).2.mon = s.mon := by simp [sinkOpen]
@[simp] theorem sinkOpen_cnt (rate : Word) (live : Bool) (s : State) : (sinkOpen rate live s).2.cnt = s.cnt := by simp [sinkOpen]
@[simp] theorem sinkOpen_par (rate : Word) (live : Bool) (s : State) : (sinkOpen rate live s).2.par = s.par := by simp [sinkOpen]

@[simp] theorem report_ctl (r : EngineResult) (s : State) : (report r s).ctl = s.ctl := rfl
@[simp] theorem report_sh (r : EngineResult) (s : State) : (report r s).sh = s.sh := rfl
@[simp] theorem report_pe (r : EngineResult) (s : State) : (report r s).pe = s.pe := rfl
@[simp] theorem report_ac (r : EngineResult) (s : State) : (report r s).ac = s.ac := rfl
@[simp] theorem report_flags (r : EngineResult) (s : State) : (report r s).flags = s.flags := rfl
@[simp] theorem report_cur (r : EngineResult) (s : State) : (report r s).cur = s.cur := rfl
@[simp] theorem report_modu (r : EngineResult) (s : State) : (report r s).modu = s.modu := rfl
@[simp] theorem report_cond (r : EngineResult) (s : State) : (report r s).cond = s.cond := rfl
@[simp] theorem report_conv (r : EngineResult) (s : State) : (report r s).conv = s.conv := rfl
@[simp] theorem report_pipe (r : EngineResult) (s : State) : (report r s).pipe = s.pipe := rfl
@[simp] theorem report_acc (r : EngineResult) (s : State) : (report r s).acc = s.acc := rfl
@[simp] theorem report_mon (r : EngineResult) (s : State) : (report r s).mon = s.mon := rfl
@[simp] theorem report_cnt (r : EngineResult) (s : State) : (report r s).cnt = s.cnt := rfl
@[simp] theorem report_par (r : EngineResult) (s : State) : (report r s).par = s.par := rfl
@[simp] theorem report_world (r : EngineResult) (s : State) : (report r s).world = s.world := rfl

@[simp] theorem raise_sh (c : ErrorClass) (code : BitVec 8) (s : State) : (raise c code s).sh = s.sh := rfl
@[simp] theorem raise_pe (c : ErrorClass) (code : BitVec 8) (s : State) : (raise c code s).pe = s.pe := rfl
@[simp] theorem raise_ac (c : ErrorClass) (code : BitVec 8) (s : State) : (raise c code s).ac = s.ac := rfl
@[simp] theorem raise_flags (c : ErrorClass) (code : BitVec 8) (s : State) : (raise c code s).flags = s.flags := rfl
@[simp] theorem raise_cur (c : ErrorClass) (code : BitVec 8) (s : State) : (raise c code s).cur = s.cur := rfl
@[simp] theorem raise_modu (c : ErrorClass) (code : BitVec 8) (s : State) : (raise c code s).modu = s.modu := rfl
@[simp] theorem raise_cond (c : ErrorClass) (code : BitVec 8) (s : State) : (raise c code s).cond = s.cond := rfl
@[simp] theorem raise_conv (c : ErrorClass) (code : BitVec 8) (s : State) : (raise c code s).conv = s.conv := rfl
@[simp] theorem raise_pipe (c : ErrorClass) (code : BitVec 8) (s : State) : (raise c code s).pipe = s.pipe := rfl
@[simp] theorem raise_acc (c : ErrorClass) (code : BitVec 8) (s : State) : (raise c code s).acc = s.acc := rfl
@[simp] theorem raise_mon (c : ErrorClass) (code : BitVec 8) (s : State) : (raise c code s).mon = s.mon := rfl
@[simp] theorem raise_cnt (c : ErrorClass) (code : BitVec 8) (s : State) : (raise c code s).cnt = s.cnt := rfl
@[simp] theorem raise_out (c : ErrorClass) (code : BitVec 8) (s : State) : (raise c code s).out = s.out := rfl
@[simp] theorem raise_par (c : ErrorClass) (code : BitVec 8) (s : State) : (raise c code s).par = s.par := rfl
@[simp] theorem raise_world (c : ErrorClass) (code : BitVec 8) (s : State) : (raise c code s).world = s.world := rfl

@[simp] theorem setErrFlag_sh (n : Nat) (s : State) : (setErrFlag n s).sh = s.sh := rfl
@[simp] theorem setErrFlag_pe (n : Nat) (s : State) : (setErrFlag n s).pe = s.pe := rfl
@[simp] theorem setErrFlag_ac (n : Nat) (s : State) : (setErrFlag n s).ac = s.ac := rfl
@[simp] theorem setErrFlag_flags (n : Nat) (s : State) : (setErrFlag n s).flags = s.flags := rfl
@[simp] theorem setErrFlag_cur (n : Nat) (s : State) : (setErrFlag n s).cur = s.cur := rfl
@[simp] theorem setErrFlag_modu (n : Nat) (s : State) : (setErrFlag n s).modu = s.modu := rfl
@[simp] theorem setErrFlag_cond (n : Nat) (s : State) : (setErrFlag n s).cond = s.cond := rfl
@[simp] theorem setErrFlag_conv (n : Nat) (s : State) : (setErrFlag n s).conv = s.conv := rfl
@[simp] theorem setErrFlag_pipe (n : Nat) (s : State) : (setErrFlag n s).pipe = s.pipe := rfl
@[simp] theorem setErrFlag_acc (n : Nat) (s : State) : (setErrFlag n s).acc = s.acc := rfl
@[simp] theorem setErrFlag_mon (n : Nat) (s : State) : (setErrFlag n s).mon = s.mon := rfl
@[simp] theorem setErrFlag_cnt (n : Nat) (s : State) : (setErrFlag n s).cnt = s.cnt := rfl
@[simp] theorem setErrFlag_out (n : Nat) (s : State) : (setErrFlag n s).out = s.out := rfl
@[simp] theorem setErrFlag_par (n : Nat) (s : State) : (setErrFlag n s).par = s.par := rfl
@[simp] theorem setErrFlag_world (n : Nat) (s : State) : (setErrFlag n s).world = s.world := rfl

@[simp] theorem clearErr_sh (v : Word) (s : State) : (clearErr v s).sh = s.sh := rfl
@[simp] theorem clearErr_pe (v : Word) (s : State) : (clearErr v s).pe = s.pe := rfl
@[simp] theorem clearErr_ac (v : Word) (s : State) : (clearErr v s).ac = s.ac := rfl
@[simp] theorem clearErr_flags (v : Word) (s : State) : (clearErr v s).flags = s.flags := rfl
@[simp] theorem clearErr_cur (v : Word) (s : State) : (clearErr v s).cur = s.cur := rfl
@[simp] theorem clearErr_modu (v : Word) (s : State) : (clearErr v s).modu = s.modu := rfl
@[simp] theorem clearErr_cond (v : Word) (s : State) : (clearErr v s).cond = s.cond := rfl
@[simp] theorem clearErr_conv (v : Word) (s : State) : (clearErr v s).conv = s.conv := rfl
@[simp] theorem clearErr_pipe (v : Word) (s : State) : (clearErr v s).pipe = s.pipe := rfl
@[simp] theorem clearErr_acc (v : Word) (s : State) : (clearErr v s).acc = s.acc := rfl
@[simp] theorem clearErr_mon (v : Word) (s : State) : (clearErr v s).mon = s.mon := rfl
@[simp] theorem clearErr_cnt (v : Word) (s : State) : (clearErr v s).cnt = s.cnt := rfl
@[simp] theorem clearErr_out (v : Word) (s : State) : (clearErr v s).out = s.out := rfl
@[simp] theorem clearErr_par (v : Word) (s : State) : (clearErr v s).par = s.par := rfl
@[simp] theorem clearErr_world (v : Word) (s : State) : (clearErr v s).world = s.world := rfl

@[simp] theorem adoptStation_ctl (s : State) : (adoptStation s).ctl = s.ctl := by unfold adoptStation; split <;> simp
@[simp] theorem adoptStation_sh (s : State) : (adoptStation s).sh = s.sh := by unfold adoptStation; split <;> simp
@[simp] theorem adoptStation_pe (s : State) : (adoptStation s).pe = s.pe := by unfold adoptStation; split <;> simp
@[simp] theorem adoptStation_cur (s : State) : (adoptStation s).cur = s.cur := by unfold adoptStation; split <;> simp
@[simp] theorem adoptStation_modu (s : State) : (adoptStation s).modu = s.modu := by unfold adoptStation; split <;> simp
@[simp] theorem adoptStation_cond (s : State) : (adoptStation s).cond = s.cond := by unfold adoptStation; split <;> simp
@[simp] theorem adoptStation_conv (s : State) : (adoptStation s).conv = s.conv := by unfold adoptStation; split <;> simp
@[simp] theorem adoptStation_pipe (s : State) : (adoptStation s).pipe = s.pipe := by unfold adoptStation; split <;> simp
@[simp] theorem adoptStation_acc (s : State) : (adoptStation s).acc = s.acc := by unfold adoptStation; split <;> simp
@[simp] theorem adoptStation_mon (s : State) : (adoptStation s).mon = s.mon := by unfold adoptStation; split <;> simp
@[simp] theorem adoptStation_cnt (s : State) : (adoptStation s).cnt = s.cnt := by unfold adoptStation; split <;> simp
@[simp] theorem adoptStation_out (s : State) : (adoptStation s).out = s.out := by unfold adoptStation; split <;> simp
@[simp] theorem adoptStation_par (s : State) : (adoptStation s).par = s.par := by unfold adoptStation; split <;> simp
@[simp] theorem adoptStation_world (s : State) : (adoptStation s).world = s.world := by unfold adoptStation; split <;> simp

@[simp] theorem adoptAudio_ctl (s : State) : (adoptAudio s).ctl = s.ctl := by unfold adoptAudio; split <;> simp
@[simp] theorem adoptAudio_sh (s : State) : (adoptAudio s).sh = s.sh := by unfold adoptAudio; split <;> simp
@[simp] theorem adoptAudio_pe (s : State) : (adoptAudio s).pe = s.pe := by unfold adoptAudio; split <;> simp
@[simp] theorem adoptAudio_cur (s : State) : (adoptAudio s).cur = s.cur := by unfold adoptAudio; split <;> simp
@[simp] theorem adoptAudio_modu (s : State) : (adoptAudio s).modu = s.modu := by unfold adoptAudio; split <;> simp
@[simp] theorem adoptAudio_cond (s : State) : (adoptAudio s).cond = s.cond := by unfold adoptAudio; split <;> simp
@[simp] theorem adoptAudio_conv (s : State) : (adoptAudio s).conv = s.conv := by unfold adoptAudio; split <;> simp
@[simp] theorem adoptAudio_pipe (s : State) : (adoptAudio s).pipe = s.pipe := by unfold adoptAudio; split <;> simp
@[simp] theorem adoptAudio_acc (s : State) : (adoptAudio s).acc = s.acc := by unfold adoptAudio; split <;> simp
@[simp] theorem adoptAudio_mon (s : State) : (adoptAudio s).mon = s.mon := by unfold adoptAudio; split <;> simp
@[simp] theorem adoptAudio_cnt (s : State) : (adoptAudio s).cnt = s.cnt := by unfold adoptAudio; split <;> simp
@[simp] theorem adoptAudio_out (s : State) : (adoptAudio s).out = s.out := by unfold adoptAudio; split <;> simp
@[simp] theorem adoptAudio_par (s : State) : (adoptAudio s).par = s.par := by unfold adoptAudio; split <;> simp
@[simp] theorem adoptAudio_world (s : State) : (adoptAudio s).world = s.world := by unfold adoptAudio; split <;> simp

@[simp] theorem streamReset_ctl (s : State) : (streamReset s).ctl = s.ctl := by simp [streamReset]
@[simp] theorem streamReset_sh (s : State) : (streamReset s).sh = s.sh := by simp [streamReset]
@[simp] theorem streamReset_pe (s : State) : (streamReset s).pe = s.pe := by simp [streamReset]
@[simp] theorem streamReset_ac (s : State) : (streamReset s).ac = s.ac := by simp [streamReset]
@[simp] theorem streamReset_flags (s : State) : (streamReset s).flags = s.flags := by simp [streamReset]
@[simp] theorem streamReset_out (s : State) : (streamReset s).out = s.out := by simp [streamReset]
@[simp] theorem streamReset_par (s : State) : (streamReset s).par = s.par := by simp [streamReset]
@[simp] theorem streamReset_world (s : State) : (streamReset s).world = s.world := by simp [streamReset]

@[simp] theorem teardown_ctl (s : State) : (teardown s).ctl = s.ctl := by simp [teardown]
@[simp] theorem teardown_sh (s : State) : (teardown s).sh = s.sh := by simp [teardown]
@[simp] theorem teardown_pe (s : State) : (teardown s).pe = s.pe := by simp [teardown]
@[simp] theorem teardown_cur (s : State) : (teardown s).cur = s.cur := by simp [teardown]
@[simp] theorem teardown_modu (s : State) : (teardown s).modu = s.modu := by simp [teardown]
@[simp] theorem teardown_cond (s : State) : (teardown s).cond = s.cond := by simp [teardown]
@[simp] theorem teardown_conv (s : State) : (teardown s).conv = s.conv := by simp [teardown]
@[simp] theorem teardown_acc (s : State) : (teardown s).acc = s.acc := by simp [teardown]
@[simp] theorem teardown_mon (s : State) : (teardown s).mon = s.mon := by simp [teardown]
@[simp] theorem teardown_cnt (s : State) : (teardown s).cnt = s.cnt := by simp [teardown]
@[simp] theorem teardown_par (s : State) : (teardown s).par = s.par := by simp [teardown]
@[simp] theorem teardown_world (s : State) : (teardown s).world = s.world := by simp [teardown]

end Sys2Proof.Machine
end

