-- ==== Sys2Proof/Laws/Access.lean ====
section
/-! SUPPORT. Register access: what a read and a write of a word of the register space can be (20_memory.md R72 to R78). -/

namespace Sys2Proof.Machine

/-- The register takes writes (20_memory.md R76); every other one ignores them. -/
def Reg.takesWrites : Reg → Bool
  | .cmd | .err | .irqEn | .mode | .outRate | .bufLen | .shadow _ => true
  | .id | .status | .errInfo | .active _ => false
  | .monPeak | .monSumsqLo | .monSumsqHi | .monN | .monPkMono | .monPkStereo | .monPkPilot | .monPkRds => false
  | .monPilotLvl | .monRdsLvl | .monGc | .monLg | .groupCount | .tickLo | .tickHi | .cursor => false

theorem writeReg_of_readOnly {r : Reg} (h : r.takesWrites = false) (v : Word) (s : State) : writeReg v s r = s := by
  cases r <;> first | rfl | simp [Reg.takesWrites] at h

/-- All a write of a word can do: nothing, a command, or a change of one control register or of the shadow copy. -/
theorem memWrite_cases (a : RegIndex) (v : Word) (s : State) :
    memWrite a v s = s ∨
    (regAt a = some .cmd ∧ memWrite a v s = doCommand (v.setWidth 8) s) ∨
    (∃ c, memWrite a v s = s.setCtl c) ∨
    (∃ r, regAt a = some (.shadow r) ∧ memWrite a v s = s.setSh (writeConf s.sh v r)) := by
  unfold memWrite
  cases h : regAt a with
  | none => exact .inl rfl
  | some r =>
    cases r <;> first
      | exact .inl rfl
      | exact .inr (.inl ⟨rfl, rfl⟩)
      | exact .inr (.inr (.inl ⟨_, rfl⟩))
      | exact .inr (.inr (.inr ⟨_, rfl, rfl⟩))

/-- The map at a shadow register's address. -/
theorem regAt_confByteAddr (r : ConfReg) : regAt (wordIndex (confByteAddr r)) = some (.shadow r) := by
  cases r <;> first | decide | (rename_i i; revert i; decide +kernel)

/-- The map at the same register's address in the active window. -/
theorem regAt_confByteAddr_active (r : ConfReg) :
    regAt (wordIndex (confByteAddr r + 0x400)) = some (.active r) := by
  cases r <;> first | decide | (rename_i i; revert i; decide +kernel)

/-- The word is where the map puts the register it holds, if that is a shadow register. -/
def shadowAddrOk (a : RegIndex) : Bool :=
  match regAt a with
  | some (.shadow r) => decide (a = wordIndex (confByteAddr r))
  | _ => true

theorem shadowAddrOk_all : ∀ a : RegIndex, shadowAddrOk a = true := by decide +kernel

/-- Only the words of the map's first window, in its order, are shadow registers. -/
theorem eq_of_regAt_shadow {a : RegIndex} {r : ConfReg} (h : regAt a = some (.shadow r)) :
    a = wordIndex (confByteAddr r) := by
  have := shadowAddrOk_all a
  simpa [shadowAddrOk, h] using this

/-- CMD is the word 1 alone. -/
theorem eq_of_regAt_cmd : ∀ {a : RegIndex}, regAt a = some .cmd → a = 1 := by decide +kernel

/-- ERR is the word 3 alone. -/
theorem eq_of_regAt_err : ∀ {a : RegIndex}, regAt a = some .err → a = 3 := by decide +kernel

end Sys2Proof.Machine
end

