-- ==== Sys2Proof/Laws/Arith.lean ====
section
/-! SUPPORT. The arithmetic primitives (00_scope.md R14): ranges, signs and the register views of integers (R10, R13). -/

namespace Sys2Proof.Machine

/-- sat24 lands in the S24 range. -/
theorem sat24_range (v : Int) : -8388608 ≤ sat24 v ∧ sat24 v ≤ 8388607 := by
  unfold sat24; split <;> [omega; (split <;> omega)]

/-- sat24 leaves the S24 range alone. -/
theorem sat24_of_range {v : Int} (h1 : -8388608 ≤ v) (h2 : v ≤ 8388607) : sat24 v = v := by
  unfold sat24; rw [if_neg (by omega), if_neg (by omega)]

/-- mulq15t keeps the sign of the product and rounds its magnitude down (R14). -/
theorem mulq15t_natAbs (a c : Int) : (mulq15t a c).natAbs = (a.natAbs * c.natAbs) / 32768 := by
  rw [← Int.natAbs_mul]; unfold mulq15t; split <;> omega

/-- |mulq15t(a, c)| <= |a| * |c| / 32768 (R14). -/
theorem mulq15t_natAbs_mul_le (a c : Int) : (mulq15t a c).natAbs * 32768 ≤ a.natAbs * c.natAbs := by
  rw [mulq15t_natAbs]; exact Nat.div_mul_le_self _ _

/-- A coefficient of at most 1.0 does not raise a magnitude (43_audio_conditioning.md R248, R251). -/
theorem mulq15t_natAbs_le (a : Int) {c : Int} (h : c.natAbs ≤ 32768) : (mulq15t a c).natAbs ≤ a.natAbs := by
  rw [mulq15t_natAbs]
  exact Nat.div_le_of_le_mul (by rw [Nat.mul_comm]; exact Nat.mul_le_mul_right _ h)

@[simp] theorem mulq15t_zero_right (a : Int) : mulq15t a 0 = 0 := by simp [mulq15t]

@[simp] theorem mulq15t_zero_left (c : Int) : mulq15t 0 c = 0 := by simp [mulq15t]

/-- An unsigned register of `w` bits holds every integer of 0 .. 2^w - 1 as it is (R10). -/
theorem toReg_toNat {w : Nat} {v : Int} (h1 : 0 ≤ v) (h2 : v < 2 ^ w) : (toReg w v).toNat = v.toNat := by
  unfold toReg
  rw [BitVec.toNat_ofInt, Int.emod_eq_of_lt h1 (by simpa using h2)]

/-- The same, read back as an integer. -/
theorem regInt_toReg {w : Nat} {v : Int} (h1 : 0 ≤ v) (h2 : v < 2 ^ w) : regInt (toReg w v) = v := by
  unfold regInt; rw [toReg_toNat h1 h2]; omega

/-- An S24 register holds every integer of the S24 range as it is (R13). -/
theorem toSample_toInt {v : Int} (h1 : -8388608 ≤ v) (h2 : v ≤ 8388607) : (toSample v).toInt = v := by
  unfold toSample
  exact BitVec.toInt_ofInt_eq_self (by omega) (by simpa using h1) (by norm_num; omega)

theorem regInt_nonneg {w : Nat} (v : BitVec w) : 0 ≤ regInt v := by unfold regInt; omega

end Sys2Proof.Machine
end

