-- ==== Sys2Proof/Laws/Conditioning.lean ====
section
/-! SUPPORT. The conditioning chain (43_audio_conditioning.md R242 to R251): the range of every stage, so that no register of the chain
drops a bit. -/

namespace Sys2Proof.Machine

/-- A fraction c / 32768 of a non-negative value lies between 0 and the value. -/
theorem scaled_range {d c : Int} (hd : 0 ≤ d) (h0 : 0 ≤ c) (h1 : c ≤ 32768) : 0 ≤ (d * c) / 32768 ∧ (d * c) / 32768 ≤ d := by
  have a : 0 ≤ d * c := mul_nonneg hd h0
  have b : d * c ≤ d * 32768 := mul_le_mul_of_nonneg_left h1 hd
  omega

/-- M is in the S24 range (R244). -/
theorem matrix_range {yl yr : Int} (hl : -8388608 ≤ yl ∧ yl ≤ 8388607) (hr : -8388608 ≤ yr ∧ yr ≤ 8388607) :
    ((yl + yr) / 2).natAbs ≤ 8388608 ∧ ((yl - yr) / 2).natAbs ≤ 8388608 := by omega

/-- ENV stays in 0 .. 8388608 (R246). -/
theorem envelopeNext_range {a env att rel : Int} (ha : 0 ≤ a ∧ a ≤ 8388608) (he : 0 ≤ env ∧ env ≤ 8388608)
    (hatt : 0 ≤ att ∧ att ≤ 32768) (hrel : 0 ≤ rel ∧ rel ≤ 32768) :
    0 ≤ envelopeNext a env att rel ∧ envelopeNext a env att rel ≤ 8388608 := by
  unfold envelopeNext
  split
  · have := scaled_range (d := a - env) (by omega) hatt.1 hatt.2; omega
  · have := scaled_range (d := env - a) (by omega) hrel.1 hrel.2; omega

/-- GC is in 0 .. 32768 (R247). -/
theorem compressorGain_range {env thr slope : Int} (ht : 0 ≤ thr) (hs : 0 ≤ slope ∧ slope ≤ 32768) :
    0 ≤ compressorGain env thr slope ∧ compressorGain env thr slope ≤ 32768 := by
  unfold compressorGain
  split
  · omega
  · rename_i h
    have hd := scaled_range (d := env - thr) (by omega) hs.1 hs.2
    constructor
    · exact Int.ediv_nonneg (by omega) (by omega)
    · exact Int.ediv_le_of_le_mul (by omega) (by rw [Int.mul_comm 32768]; exact mul_le_mul_of_nonneg_right (by omega) (by omega))

/-- `need` is in 0 .. 32768 (R249). -/
theorem limiterNeed_range {pk ceil : Int} (hc : 0 ≤ ceil) : 0 ≤ limiterNeed pk ceil ∧ limiterNeed pk ceil ≤ 32768 := by
  unfold limiterNeed
  split
  · constructor
    · exact Int.ediv_nonneg (by omega) (by omega)
    · exact Int.ediv_le_of_le_mul (by omega) (by rw [Int.mul_comm 32768]; exact mul_le_mul_of_nonneg_right (by omega) (by omega))
  · omega

/-- LG is in 0 .. 32768 and at most `need` (R249). -/
theorem limiterGain_range {pk ceil lg rel : Int} (hc : 0 ≤ ceil) (hl : 0 ≤ lg) (hr : 0 ≤ rel) :
    0 ≤ limiterGain pk ceil lg rel ∧ limiterGain pk ceil lg rel ≤ 32768 ∧
      limiterGain pk ceil lg rel ≤ limiterNeed pk ceil := by
  have := limiterNeed_range (pk := pk) hc
  unfold limiterGain
  omega

/-- pk * need / 32768 stays under the ceiling (R249). -/
theorem limiterNeed_mul_le {pk ceil : Int} (hc : 0 ≤ ceil) : pk * limiterNeed pk ceil ≤ ceil * 32768 := by
  unfold limiterNeed
  split
  · rw [Int.mul_comm]; exact Int.ediv_mul_le _ (by omega)
  · have : pk ≤ ceil := by omega
    exact mul_le_mul_of_nonneg_right this (by omega)

end Sys2Proof.Machine
end

