-- ==== Sys2Proof/Laws/FrameEngine.lean ====
section
/-! SUPPORT. Frames of the encoder, the modulator, the tick and the rate converter: one lemma per part of the state an operation leaves
as it was. -/

namespace Sys2Proof.Machine

@[simp] theorem schedGuard_ctl (s : State) : (schedGuard s).ctl = s.ctl := by unfold schedGuard; split <;> simp
@[simp] theorem schedGuard_sh (s : State) : (schedGuard s).sh = s.sh := by unfold schedGuard; split <;> simp
@[simp] theorem schedGuard_pe (s : State) : (schedGuard s).pe = s.pe := by unfold schedGuard; split <;> simp
@[simp] theorem schedGuard_ac (s : State) : (schedGuard s).ac = s.ac := by unfold schedGuard; split <;> simp
@[simp] theorem schedGuard_flags (s : State) : (schedGuard s).flags = s.flags := by unfold schedGuard; split <;> simp
@[simp] theorem schedGuard_modu (s : State) : (schedGuard s).modu = s.modu := by unfold schedGuard; split <;> simp
@[simp] theorem schedGuard_cond (s : State) : (schedGuard s).cond = s.cond := by unfold schedGuard; split <;> simp
@[simp] theorem schedGuard_conv (s : State) : (schedGuard s).conv = s.conv := by unfold schedGuard; split <;> simp
@[simp] theorem schedGuard_pipe (s : State) : (schedGuard s).pipe = s.pipe := by unfold schedGuard; split <;> simp
@[simp] theorem schedGuard_acc (s : State) : (schedGuard s).acc = s.acc := by unfold schedGuard; split <;> simp
@[simp] theorem schedGuard_mon (s : State) : (schedGuard s).mon = s.mon := by unfold schedGuard; split <;> simp
@[simp] theorem schedGuard_cnt (s : State) : (schedGuard s).cnt = s.cnt := by unfold schedGuard; split <;> simp
@[simp] theorem schedGuard_out (s : State) : (schedGuard s).out = s.out := by unfold schedGuard; split <;> simp
@[simp] theorem schedGuard_par (s : State) : (schedGuard s).par = s.par := by unfold schedGuard; split <;> simp
@[simp] theorem schedGuard_world (s : State) : (schedGuard s).world = s.world := by unfold schedGuard; split <;> simp

@[simp] theorem schedAdvance_ctl (s : State) : (schedAdvance s).ctl = s.ctl := by unfold schedAdvance; dsimp only; split <;> simp
@[simp] theorem schedAdvance_sh (s : State) : (schedAdvance s).sh = s.sh := by unfold schedAdvance; dsimp only; split <;> simp
@[simp] theorem schedAdvance_pe (s : State) : (schedAdvance s).pe = s.pe := by unfold schedAdvance; dsimp only; split <;> simp
@[simp] theorem schedAdvance_ac (s : State) : (schedAdvance s).ac = s.ac := by unfold schedAdvance; dsimp only; split <;> simp
@[simp] theorem schedAdvance_flags (s : State) : (schedAdvance s).flags = s.flags := by unfold schedAdvance; dsimp only; split <;> simp
@[simp] theorem schedAdvance_modu (s : State) : (schedAdvance s).modu = s.modu := by unfold schedAdvance; dsimp only; split <;> simp
@[simp] theorem schedAdvance_cond (s : State) : (schedAdvance s).cond = s.cond := by unfold schedAdvance; dsimp only; split <;> simp
@[simp] theorem schedAdvance_conv (s : State) : (schedAdvance s).conv = s.conv := by unfold schedAdvance; dsimp only; split <;> simp
@[simp] theorem schedAdvance_pipe (s : State) : (schedAdvance s).pipe = s.pipe := by unfold schedAdvance; dsimp only; split <;> simp
@[simp] theorem schedAdvance_acc (s : State) : (schedAdvance s).acc = s.acc := by unfold schedAdvance; dsimp only; split <;> simp
@[simp] theorem schedAdvance_mon (s : State) : (schedAdvance s).mon = s.mon := by unfold schedAdvance; dsimp only; split <;> simp
@[simp] theorem schedAdvance_cnt (s : State) : (schedAdvance s).cnt = s.cnt := by unfold schedAdvance; dsimp only; split <;> simp
@[simp] theorem schedAdvance_out (s : State) : (schedAdvance s).out = s.out := by unfold schedAdvance; dsimp only; split <;> simp
@[simp] theorem schedAdvance_par (s : State) : (schedAdvance s).par = s.par := by unfold schedAdvance; dsimp only; split <;> simp

@[simp] theorem walkSchedule_ctl (n : Nat) (s : State) : (walkSchedule n s).2.ctl = s.ctl := by
  induction n generalizing s with
  | zero => rfl
  | succ n ih => unfold walkSchedule; dsimp only; split <;> simp [ih]
@[simp] theorem walkSchedule_sh (n : Nat) (s : State) : (walkSchedule n s).2.sh = s.sh := by
  induction n generalizing s with
  | zero => rfl
  | succ n ih => unfold walkSchedule; dsimp only; split <;> simp [ih]
@[simp] theorem walkSchedule_pe (n : Nat) (s : State) : (walkSchedule n s).2.pe = s.pe := by
  induction n generalizing s with
  | zero => rfl
  | succ n ih => unfold walkSchedule; dsimp only; split <;> simp [ih]
@[simp] theorem walkSchedule_ac (n : Nat) (s : State) : (walkSchedule n s).2.ac = s.ac := by
  induction n generalizing s with
  | zero => rfl
  | succ n ih => unfold walkSchedule; dsimp only; split <;> simp [ih]
@[simp] theorem walkSchedule_flags (n : Nat) (s : State) : (walkSchedule n s).2.flags = s.flags := by
  induction n generalizing s with
  | zero => rfl
  | succ n ih => unfold walkSchedule; dsimp only; split <;> simp [ih]
@[simp] theorem walkSchedule_modu (n : Nat) (s : State) : (walkSchedule n s).2.modu = s.modu := by
  induction n generalizing s with
  | zero => rfl
  | succ n ih => unfold walkSchedule; dsimp only; split <;> simp [ih]
@[simp] theorem walkSchedule_cond (n : Nat) (s : State) : (walkSchedule n s).2.cond = s.cond := by
  induction n generalizing s with
  | zero => rfl
  | succ n ih => unfold walkSchedule; dsimp only; split <;> simp [ih]
@[simp] theorem walkSchedule_conv (n : Nat) (s : State) : (walkSchedule n s).2.conv = s.conv := by
  induction n generalizing s with
  | zero => rfl
  | succ n ih => unfold walkSchedule; dsimp only; split <;> simp [ih]
@[simp] theorem walkSchedule_pipe (n : Nat) (s : State) : (walkSchedule n s).2.pipe = s.pipe := by
  induction n generalizing s with
  | zero => rfl
  | succ n ih => unfold walkSchedule; dsimp only; split <;> simp [ih]
@[simp] theorem walkSchedule_acc (n : Nat) (s : State) : (walkSchedule n s).2.acc = s.acc := by
  induction n generalizing s with
  | zero => rfl
  | succ n ih => unfold walkSchedule; dsimp only; split <;> simp [ih]
@[simp] theorem walkSchedule_mon (n : Nat) (s : State) : (walkSchedule n s).2.mon = s.mon := by
  induction n generalizing s with
  | zero => rfl
  | succ n ih => unfold walkSchedule; dsimp only; split <;> simp [ih]
@[simp] theorem walkSchedule_cnt (n : Nat) (s : State) : (walkSchedule n s).2.cnt = s.cnt := by
  induction n generalizing s with
  | zero => rfl
  | succ n ih => unfold walkSchedule; dsimp only; split <;> simp [ih]
@[simp] theorem walkSchedule_out (n : Nat) (s : State) : (walkSchedule n s).2.out = s.out := by
  induction n generalizing s with
  | zero => rfl
  | succ n ih => unfold walkSchedule; dsimp only; split <;> simp [ih]
@[simp] theorem walkSchedule_par (n : Nat) (s : State) : (walkSchedule n s).2.par = s.par := by
  induction n generalizing s with
  | zero => rfl
  | succ n ih => unfold walkSchedule; dsimp only; split <;> simp [ih]

@[simp] theorem selectSlot_ctl (s : State) : (selectSlot s).2.ctl = s.ctl := by simp [selectSlot]
@[simp] theorem selectSlot_sh (s : State) : (selectSlot s).2.sh = s.sh := by simp [selectSlot]
@[simp] theorem selectSlot_pe (s : State) : (selectSlot s).2.pe = s.pe := by simp [selectSlot]
@[simp] theorem selectSlot_ac (s : State) : (selectSlot s).2.ac = s.ac := by simp [selectSlot]
@[simp] theorem selectSlot_flags (s : State) : (selectSlot s).2.flags = s.flags := by simp [selectSlot]
@[simp] theorem selectSlot_modu (s : State) : (selectSlot s).2.modu = s.modu := by simp [selectSlot]
@[simp] theorem selectSlot_cond (s : State) : (selectSlot s).2.cond = s.cond := by simp [selectSlot]
@[simp] theorem selectSlot_conv (s : State) : (selectSlot s).2.conv = s.conv := by simp [selectSlot]
@[simp] theorem selectSlot_pipe (s : State) : (selectSlot s).2.pipe = s.pipe := by simp [selectSlot]
@[simp] theorem selectSlot_acc (s : State) : (selectSlot s).2.acc = s.acc := by simp [selectSlot]
@[simp] theorem selectSlot_mon (s : State) : (selectSlot s).2.mon = s.mon := by simp [selectSlot]
@[simp] theorem selectSlot_cnt (s : State) : (selectSlot s).2.cnt = s.cnt := by simp [selectSlot]
@[simp] theorem selectSlot_out (s : State) : (selectSlot s).2.out = s.out := by simp [selectSlot]
@[simp] theorem selectSlot_par (s : State) : (selectSlot s).2.par = s.par := by simp [selectSlot]

@[simp] theorem afGuard_ctl (s : State) : (afGuard s).ctl = s.ctl := by unfold afGuard; split <;> simp
@[simp] theorem afGuard_sh (s : State) : (afGuard s).sh = s.sh := by unfold afGuard; split <;> simp
@[simp] theorem afGuard_pe (s : State) : (afGuard s).pe = s.pe := by unfold afGuard; split <;> simp
@[simp] theorem afGuard_ac (s : State) : (afGuard s).ac = s.ac := by unfold afGuard; split <;> simp
@[simp] theorem afGuard_flags (s : State) : (afGuard s).flags = s.flags := by unfold afGuard; split <;> simp
@[simp] theorem afGuard_modu (s : State) : (afGuard s).modu = s.modu := by unfold afGuard; split <;> simp
@[simp] theorem afGuard_cond (s : State) : (afGuard s).cond = s.cond := by unfold afGuard; split <;> simp
@[simp] theorem afGuard_conv (s : State) : (afGuard s).conv = s.conv := by unfold afGuard; split <;> simp
@[simp] theorem afGuard_pipe (s : State) : (afGuard s).pipe = s.pipe := by unfold afGuard; split <;> simp
@[simp] theorem afGuard_acc (s : State) : (afGuard s).acc = s.acc := by unfold afGuard; split <;> simp
@[simp] theorem afGuard_mon (s : State) : (afGuard s).mon = s.mon := by unfold afGuard; split <;> simp
@[simp] theorem afGuard_cnt (s : State) : (afGuard s).cnt = s.cnt := by unfold afGuard; split <;> simp
@[simp] theorem afGuard_out (s : State) : (afGuard s).out = s.out := by unfold afGuard; split <;> simp
@[simp] theorem afGuard_par (s : State) : (afGuard s).par = s.par := by unfold afGuard; split <;> simp
@[simp] theorem afGuard_world (s : State) : (afGuard s).world = s.world := by unfold afGuard; split <;> simp

@[simp] theorem build0A_ctl (s : State) : (build0A s).2.ctl = s.ctl := by simp [build0A]
@[simp] theorem build0A_sh (s : State) : (build0A s).2.sh = s.sh := by simp [build0A]
@[simp] theorem build0A_pe (s : State) : (build0A s).2.pe = s.pe := by simp [build0A]
@[simp] theorem build0A_ac (s : State) : (build0A s).2.ac = s.ac := by simp [build0A]
@[simp] theorem build0A_flags (s : State) : (build0A s).2.flags = s.flags := by simp [build0A]
@[simp] theorem build0A_modu (s : State) : (build0A s).2.modu = s.modu := by simp [build0A]
@[simp] theorem build0A_cond (s : State) : (build0A s).2.cond = s.cond := by simp [build0A]
@[simp] theorem build0A_conv (s : State) : (build0A s).2.conv = s.conv := by simp [build0A]
@[simp] theorem build0A_pipe (s : State) : (build0A s).2.pipe = s.pipe := by simp [build0A]
@[simp] theorem build0A_acc (s : State) : (build0A s).2.acc = s.acc := by simp [build0A]
@[simp] theorem build0A_mon (s : State) : (build0A s).2.mon = s.mon := by simp [build0A]
@[simp] theorem build0A_cnt (s : State) : (build0A s).2.cnt = s.cnt := by simp [build0A]
@[simp] theorem build0A_out (s : State) : (build0A s).2.out = s.out := by simp [build0A]
@[simp] theorem build0A_par (s : State) : (build0A s).2.par = s.par := by simp [build0A]
@[simp] theorem build0A_world (s : State) : (build0A s).2.world = s.world := by simp [build0A]

@[simp] theorem build2A_ctl (s : State) : (build2A s).2.ctl = s.ctl := by simp [build2A]
@[simp] theorem build2A_sh (s : State) : (build2A s).2.sh = s.sh := by simp [build2A]
@[simp] theorem build2A_pe (s : State) : (build2A s).2.pe = s.pe := by simp [build2A]
@[simp] theorem build2A_ac (s : State) : (build2A s).2.ac = s.ac := by simp [build2A]
@[simp] theorem build2A_flags (s : State) : (build2A s).2.flags = s.flags := by simp [build2A]
@[simp] theorem build2A_modu (s : State) : (build2A s).2.modu = s.modu := by simp [build2A]
@[simp] theorem build2A_cond (s : State) : (build2A s).2.cond = s.cond := by simp [build2A]
@[simp] theorem build2A_conv (s : State) : (build2A s).2.conv = s.conv := by simp [build2A]
@[simp] theorem build2A_pipe (s : State) : (build2A s).2.pipe = s.pipe := by simp [build2A]
@[simp] theorem build2A_acc (s : State) : (build2A s).2.acc = s.acc := by simp [build2A]
@[simp] theorem build2A_mon (s : State) : (build2A s).2.mon = s.mon := by simp [build2A]
@[simp] theorem build2A_cnt (s : State) : (build2A s).2.cnt = s.cnt := by simp [build2A]
@[simp] theorem build2A_out (s : State) : (build2A s).2.out = s.out := by simp [build2A]
@[simp] theorem build2A_par (s : State) : (build2A s).2.par = s.par := by simp [build2A]
@[simp] theorem build2A_world (s : State) : (build2A s).2.world = s.world := by simp [build2A]

@[simp] theorem build4A_ctl (s : State) : (build4A s).2.ctl = s.ctl := rfl
@[simp] theorem build4A_sh (s : State) : (build4A s).2.sh = s.sh := rfl
@[simp] theorem build4A_pe (s : State) : (build4A s).2.pe = s.pe := rfl
@[simp] theorem build4A_ac (s : State) : (build4A s).2.ac = s.ac := rfl
@[simp] theorem build4A_flags (s : State) : (build4A s).2.flags = s.flags := rfl
@[simp] theorem build4A_cur (s : State) : (build4A s).2.cur = s.cur := rfl
@[simp] theorem build4A_modu (s : State) : (build4A s).2.modu = s.modu := rfl
@[simp] theorem build4A_cond (s : State) : (build4A s).2.cond = s.cond := rfl
@[simp] theorem build4A_conv (s : State) : (build4A s).2.conv = s.conv := rfl
@[simp] theorem build4A_pipe (s : State) : (build4A s).2.pipe = s.pipe := rfl
@[simp] theorem build4A_acc (s : State) : (build4A s).2.acc = s.acc := rfl
@[simp] theorem build4A_mon (s : State) : (build4A s).2.mon = s.mon := rfl
@[simp] theorem build4A_cnt (s : State) : (build4A s).2.cnt = s.cnt := rfl
@[simp] theorem build4A_out (s : State) : (build4A s).2.out = s.out := rfl
@[simp] theorem build4A_par (s : State) : (build4A s).2.par = s.par := rfl
@[simp] theorem build4A_world (s : State) : (build4A s).2.world = s.world := rfl

@[simp] theorem buildSlot_ctl (c : BitVec 2) (s : State) : (buildSlot c s).2.ctl = s.ctl := by
  unfold buildSlot
  repeat' split
  all_goals simp
@[simp] theorem buildSlot_sh (c : BitVec 2) (s : State) : (buildSlot c s).2.sh = s.sh := by
  unfold buildSlot
  repeat' split
  all_goals simp
@[simp] theorem buildSlot_pe (c : BitVec 2) (s : State) : (buildSlot c s).2.pe = s.pe := by
  unfold buildSlot
  repeat' split
  all_goals simp
@[simp] theorem buildSlot_ac (c : BitVec 2) (s : State) : (buildSlot c s).2.ac = s.ac := by
  unfold buildSlot
  repeat' split
  all_goals simp
@[simp] theorem buildSlot_flags (c : BitVec 2) (s : State) : (buildSlot c s).2.flags = s.flags := by
  unfold buildSlot
  repeat' split
  all_goals simp
@[simp] theorem buildSlot_modu (c : BitVec 2) (s : State) : (buildSlot c s).2.modu = s.modu := by
  unfold buildSlot
  repeat' split
  all_goals simp
@[simp] theorem buildSlot_cond (c : BitVec 2) (s : State) : (buildSlot c s).2.cond = s.cond := by
  unfold buildSlot
  repeat' split
  all_goals simp
@[simp] theorem buildSlot_conv (c : BitVec 2) (s : State) : (buildSlot c s).2.conv = s.conv := by
  unfold buildSlot
  repeat' split
  all_goals simp
@[simp] theorem buildSlot_pipe (c : BitVec 2) (s : State) : (buildSlot c s).2.pipe = s.pipe := by
  unfold buildSlot
  repeat' split
  all_goals simp
@[simp] theorem buildSlot_acc (c : BitVec 2) (s : State) : (buildSlot c s).2.acc = s.acc := by
  unfold buildSlot
  repeat' split
  all_goals simp
@[simp] theorem buildSlot_mon (c : BitVec 2) (s : State) : (buildSlot c s).2.mon = s.mon := by
  unfold buildSlot
  repeat' split
  all_goals simp
@[simp] theorem buildSlot_cnt (c : BitVec 2) (s : State) : (buildSlot c s).2.cnt = s.cnt := by
  unfold buildSlot
  repeat' split
  all_goals simp
@[simp] theorem buildSlot_out (c : BitVec 2) (s : State) : (buildSlot c s).2.out = s.out := by
  unfold buildSlot
  repeat' split
  all_goals simp
@[simp] theorem buildSlot_par (c : BitVec 2) (s : State) : (buildSlot c s).2.par = s.par := by
  unfold buildSlot
  repeat' split
  all_goals simp

@[simp] theorem runSlot_ctl (c : BitVec 2) (s : State) : (runSlot c s).2.ctl = s.ctl := by simp [runSlot]
@[simp] theorem runSlot_sh (c : BitVec 2) (s : State) : (runSlot c s).2.sh = s.sh := by simp [runSlot]
@[simp] theorem runSlot_pe (c : BitVec 2) (s : State) : (runSlot c s).2.pe = s.pe := by simp [runSlot]
@[simp] theorem runSlot_ac (c : BitVec 2) (s : State) : (runSlot c s).2.ac = s.ac := by simp [runSlot]
@[simp] theorem runSlot_flags (c : BitVec 2) (s : State) : (runSlot c s).2.flags = s.flags := by simp [runSlot]
@[simp] theorem runSlot_modu (c : BitVec 2) (s : State) : (runSlot c s).2.modu = s.modu := by simp [runSlot]
@[simp] theorem runSlot_cond (c : BitVec 2) (s : State) : (runSlot c s).2.cond = s.cond := by simp [runSlot]
@[simp] theorem runSlot_conv (c : BitVec 2) (s : State) : (runSlot c s).2.conv = s.conv := by simp [runSlot]
@[simp] theorem runSlot_pipe (c : BitVec 2) (s : State) : (runSlot c s).2.pipe = s.pipe := by simp [runSlot]
@[simp] theorem runSlot_acc (c : BitVec 2) (s : State) : (runSlot c s).2.acc = s.acc := by simp [runSlot]
@[simp] theorem runSlot_mon (c : BitVec 2) (s : State) : (runSlot c s).2.mon = s.mon := by simp [runSlot]
@[simp] theorem runSlot_cnt (c : BitVec 2) (s : State) : (runSlot c s).2.cnt = s.cnt := by simp [runSlot]
@[simp] theorem runSlot_out (c : BitVec 2) (s : State) : (runSlot c s).2.out = s.out := by simp [runSlot]
@[simp] theorem runSlot_par (c : BitVec 2) (s : State) : (runSlot c s).2.par = s.par := by simp [runSlot]

@[simp] theorem nextGroup_ctl (s : State) : (nextGroup s).2.ctl = s.ctl := by unfold nextGroup; dsimp only; split <;> simp
@[simp] theorem nextGroup_sh (s : State) : (nextGroup s).2.sh = s.sh := by unfold nextGroup; dsimp only; split <;> simp
@[simp] theorem nextGroup_pe (s : State) : (nextGroup s).2.pe = s.pe := by unfold nextGroup; dsimp only; split <;> simp
@[simp] theorem nextGroup_ac (s : State) : (nextGroup s).2.ac = s.ac := by unfold nextGroup; dsimp only; split <;> simp
@[simp] theorem nextGroup_flags (s : State) : (nextGroup s).2.flags = s.flags := by unfold nextGroup; dsimp only; split <;> simp
@[simp] theorem nextGroup_modu (s : State) : (nextGroup s).2.modu = s.modu := by unfold nextGroup; dsimp only; split <;> simp
@[simp] theorem nextGroup_cond (s : State) : (nextGroup s).2.cond = s.cond := by unfold nextGroup; dsimp only; split <;> simp
@[simp] theorem nextGroup_conv (s : State) : (nextGroup s).2.conv = s.conv := by unfold nextGroup; dsimp only; split <;> simp
@[simp] theorem nextGroup_pipe (s : State) : (nextGroup s).2.pipe = s.pipe := by unfold nextGroup; dsimp only; split <;> simp
@[simp] theorem nextGroup_acc (s : State) : (nextGroup s).2.acc = s.acc := by unfold nextGroup; dsimp only; split <;> simp
@[simp] theorem nextGroup_mon (s : State) : (nextGroup s).2.mon = s.mon := by unfold nextGroup; dsimp only; split <;> simp
@[simp] theorem nextGroup_cnt (s : State) : (nextGroup s).2.cnt = s.cnt := by unfold nextGroup; dsimp only; split <;> simp
@[simp] theorem nextGroup_out (s : State) : (nextGroup s).2.out = s.out := by unfold nextGroup; dsimp only; split <;> simp
@[simp] theorem nextGroup_par (s : State) : (nextGroup s).2.par = s.par := by unfold nextGroup; dsimp only; split <;> simp

@[simp] theorem groupBoundary_ctl (s : State) : (groupBoundary s).ctl = s.ctl := by simp [groupBoundary]
@[simp] theorem groupBoundary_sh (s : State) : (groupBoundary s).sh = s.sh := by simp [groupBoundary]
@[simp] theorem groupBoundary_pe (s : State) : (groupBoundary s).pe = s.pe := by simp [groupBoundary]
@[simp] theorem groupBoundary_cond (s : State) : (groupBoundary s).cond = s.cond := by simp [groupBoundary]
@[simp] theorem groupBoundary_conv (s : State) : (groupBoundary s).conv = s.conv := by simp [groupBoundary]
@[simp] theorem groupBoundary_pipe (s : State) : (groupBoundary s).pipe = s.pipe := by simp [groupBoundary]
@[simp] theorem groupBoundary_acc (s : State) : (groupBoundary s).acc = s.acc := by simp [groupBoundary]
@[simp] theorem groupBoundary_mon (s : State) : (groupBoundary s).mon = s.mon := by simp [groupBoundary]
@[simp] theorem groupBoundary_out (s : State) : (groupBoundary s).out = s.out := by simp [groupBoundary]
@[simp] theorem groupBoundary_par (s : State) : (groupBoundary s).par = s.par := by simp [groupBoundary]

@[simp] theorem bitStep_ctl (s : State) : (bitStep s).ctl = s.ctl := by unfold bitStep; dsimp only; split <;> simp
@[simp] theorem bitStep_sh (s : State) : (bitStep s).sh = s.sh := by unfold bitStep; dsimp only; split <;> simp
@[simp] theorem bitStep_pe (s : State) : (bitStep s).pe = s.pe := by unfold bitStep; dsimp only; split <;> simp
@[simp] theorem bitStep_cond (s : State) : (bitStep s).cond = s.cond := by unfold bitStep; dsimp only; split <;> simp
@[simp] theorem bitStep_conv (s : State) : (bitStep s).conv = s.conv := by unfold bitStep; dsimp only; split <;> simp
@[simp] theorem bitStep_pipe (s : State) : (bitStep s).pipe = s.pipe := by unfold bitStep; dsimp only; split <;> simp
@[simp] theorem bitStep_acc (s : State) : (bitStep s).acc = s.acc := by unfold bitStep; dsimp only; split <;> simp
@[simp] theorem bitStep_mon (s : State) : (bitStep s).mon = s.mon := by unfold bitStep; dsimp only; split <;> simp
@[simp] theorem bitStep_out (s : State) : (bitStep s).out = s.out := by unfold bitStep; dsimp only; split <;> simp
@[simp] theorem bitStep_par (s : State) : (bitStep s).par = s.par := by unfold bitStep; dsimp only; split <;> simp

@[simp] theorem modulatorStep_ctl (s : State) : (modulatorStep s).ctl = s.ctl := by unfold modulatorStep; split <;> simp
@[simp] theorem modulatorStep_sh (s : State) : (modulatorStep s).sh = s.sh := by unfold modulatorStep; split <;> simp
@[simp] theorem modulatorStep_pe (s : State) : (modulatorStep s).pe = s.pe := by unfold modulatorStep; split <;> simp
@[simp] theorem modulatorStep_cond (s : State) : (modulatorStep s).cond = s.cond := by unfold modulatorStep; split <;> simp
@[simp] theorem modulatorStep_conv (s : State) : (modulatorStep s).conv = s.conv := by unfold modulatorStep; split <;> simp
@[simp] theorem modulatorStep_pipe (s : State) : (modulatorStep s).pipe = s.pipe := by unfold modulatorStep; split <;> simp
@[simp] theorem modulatorStep_acc (s : State) : (modulatorStep s).acc = s.acc := by unfold modulatorStep; split <;> simp
@[simp] theorem modulatorStep_mon (s : State) : (modulatorStep s).mon = s.mon := by unfold modulatorStep; split <;> simp
@[simp] theorem modulatorStep_out (s : State) : (modulatorStep s).out = s.out := by unfold modulatorStep; split <;> simp
@[simp] theorem modulatorStep_par (s : State) : (modulatorStep s).par = s.par := by unfold modulatorStep; split <;> simp

@[simp] theorem fetchFrame_sh (s : State) : (fetchFrame s).2.sh = s.sh := by unfold fetchFrame; dsimp only; split <;> simp
@[simp] theorem fetchFrame_pe (s : State) : (fetchFrame s).2.pe = s.pe := by unfold fetchFrame; dsimp only; split <;> simp
@[simp] theorem fetchFrame_ac (s : State) : (fetchFrame s).2.ac = s.ac := by unfold fetchFrame; dsimp only; split <;> simp
@[simp] theorem fetchFrame_flags (s : State) : (fetchFrame s).2.flags = s.flags := by unfold fetchFrame; dsimp only; split <;> simp
@[simp] theorem fetchFrame_cur (s : State) : (fetchFrame s).2.cur = s.cur := by unfold fetchFrame; dsimp only; split <;> simp
@[simp] theorem fetchFrame_modu (s : State) : (fetchFrame s).2.modu = s.modu := by unfold fetchFrame; dsimp only; split <;> simp
@[simp] theorem fetchFrame_cond (s : State) : (fetchFrame s).2.cond = s.cond := by unfold fetchFrame; dsimp only; split <;> simp
@[simp] theorem fetchFrame_conv (s : State) : (fetchFrame s).2.conv = s.conv := by unfold fetchFrame; dsimp only; split <;> simp
@[simp] theorem fetchFrame_pipe (s : State) : (fetchFrame s).2.pipe = s.pipe := by unfold fetchFrame; dsimp only; split <;> simp
@[simp] theorem fetchFrame_acc (s : State) : (fetchFrame s).2.acc = s.acc := by unfold fetchFrame; dsimp only; split <;> simp
@[simp] theorem fetchFrame_mon (s : State) : (fetchFrame s).2.mon = s.mon := by unfold fetchFrame; dsimp only; split <;> simp
@[simp] theorem fetchFrame_cnt (s : State) : (fetchFrame s).2.cnt = s.cnt := by unfold fetchFrame; dsimp only; split <;> simp
@[simp] theorem fetchFrame_out (s : State) : (fetchFrame s).2.out = s.out := by unfold fetchFrame; dsimp only; split <;> simp
@[simp] theorem fetchFrame_par (s : State) : (fetchFrame s).2.par = s.par := by unfold fetchFrame; dsimp only; split <;> simp

@[simp] theorem clipCheck_sh (c : Contributions) (s : State) : (clipCheck c s).sh = s.sh := by unfold clipCheck; split <;> simp
@[simp] theorem clipCheck_pe (c : Contributions) (s : State) : (clipCheck c s).pe = s.pe := by unfold clipCheck; split <;> simp
@[simp] theorem clipCheck_ac (c : Contributions) (s : State) : (clipCheck c s).ac = s.ac := by unfold clipCheck; split <;> simp
@[simp] theorem clipCheck_flags (c : Contributions) (s : State) : (clipCheck c s).flags = s.flags := by unfold clipCheck; split <;> simp
@[simp] theorem clipCheck_cur (c : Contributions) (s : State) : (clipCheck c s).cur = s.cur := by unfold clipCheck; split <;> simp
@[simp] theorem clipCheck_modu (c : Contributions) (s : State) : (clipCheck c s).modu = s.modu := by unfold clipCheck; split <;> simp
@[simp] theorem clipCheck_cond (c : Contributions) (s : State) : (clipCheck c s).cond = s.cond := by unfold clipCheck; split <;> simp
@[simp] theorem clipCheck_conv (c : Contributions) (s : State) : (clipCheck c s).conv = s.conv := by unfold clipCheck; split <;> simp
@[simp] theorem clipCheck_pipe (c : Contributions) (s : State) : (clipCheck c s).pipe = s.pipe := by unfold clipCheck; split <;> simp
@[simp] theorem clipCheck_acc (c : Contributions) (s : State) : (clipCheck c s).acc = s.acc := by unfold clipCheck; split <;> simp
@[simp] theorem clipCheck_mon (c : Contributions) (s : State) : (clipCheck c s).mon = s.mon := by unfold clipCheck; split <;> simp
@[simp] theorem clipCheck_cnt (c : Contributions) (s : State) : (clipCheck c s).cnt = s.cnt := by unfold clipCheck; split <;> simp
@[simp] theorem clipCheck_out (c : Contributions) (s : State) : (clipCheck c s).out = s.out := by unfold clipCheck; split <;> simp
@[simp] theorem clipCheck_par (c : Contributions) (s : State) : (clipCheck c s).par = s.par := by unfold clipCheck; split <;> simp
@[simp] theorem clipCheck_world (c : Contributions) (s : State) : (clipCheck c s).world = s.world := by unfold clipCheck; split <;> simp

@[simp] theorem advanceCounters_ctl (s : State) : (advanceCounters s).ctl = s.ctl := rfl
@[simp] theorem advanceCounters_sh (s : State) : (advanceCounters s).sh = s.sh := rfl
@[simp] theorem advanceCounters_pe (s : State) : (advanceCounters s).pe = s.pe := rfl
@[simp] theorem advanceCounters_ac (s : State) : (advanceCounters s).ac = s.ac := rfl
@[simp] theorem advanceCounters_flags (s : State) : (advanceCounters s).flags = s.flags := rfl
@[simp] theorem advanceCounters_cur (s : State) : (advanceCounters s).cur = s.cur := rfl
@[simp] theorem advanceCounters_cond (s : State) : (advanceCounters s).cond = s.cond := rfl
@[simp] theorem advanceCounters_conv (s : State) : (advanceCounters s).conv = s.conv := rfl
@[simp] theorem advanceCounters_pipe (s : State) : (advanceCounters s).pipe = s.pipe := rfl
@[simp] theorem advanceCounters_acc (s : State) : (advanceCounters s).acc = s.acc := rfl
@[simp] theorem advanceCounters_mon (s : State) : (advanceCounters s).mon = s.mon := rfl
@[simp] theorem advanceCounters_out (s : State) : (advanceCounters s).out = s.out := rfl
@[simp] theorem advanceCounters_par (s : State) : (advanceCounters s).par = s.par := rfl
@[simp] theorem advanceCounters_world (s : State) : (advanceCounters s).world = s.world := rfl

@[simp] theorem tickFront_ctl (s : State) : (tickFront s).ctl = s.ctl := by simp [tickFront]
@[simp] theorem tickFront_sh (s : State) : (tickFront s).sh = s.sh := by simp [tickFront]
@[simp] theorem tickFront_pe (s : State) : (tickFront s).pe = s.pe := by simp [tickFront]
@[simp] theorem tickFront_cond (s : State) : (tickFront s).cond = s.cond := by simp [tickFront]
@[simp] theorem tickFront_conv (s : State) : (tickFront s).conv = s.conv := by simp [tickFront]
@[simp] theorem tickFront_pipe (s : State) : (tickFront s).pipe = s.pipe := by simp [tickFront]
@[simp] theorem tickFront_acc (s : State) : (tickFront s).acc = s.acc := by simp [tickFront]
@[simp] theorem tickFront_mon (s : State) : (tickFront s).mon = s.mon := by simp [tickFront]
@[simp] theorem tickFront_out (s : State) : (tickFront s).out = s.out := by simp [tickFront]
@[simp] theorem tickFront_par (s : State) : (tickFront s).par = s.par := by simp [tickFront]

@[simp] theorem tick_sh (s : State) : (tick s).2.sh = s.sh := by simp [tick]
@[simp] theorem tick_pe (s : State) : (tick s).2.pe = s.pe := by simp [tick]
@[simp] theorem tick_conv (s : State) : (tick s).2.conv = s.conv := by simp [tick]
@[simp] theorem tick_pipe (s : State) : (tick s).2.pipe = s.pipe := by simp [tick]
@[simp] theorem tick_mon (s : State) : (tick s).2.mon = s.mon := by simp [tick]
@[simp] theorem tick_out (s : State) : (tick s).2.out = s.out := by simp [tick]
@[simp] theorem tick_par (s : State) : (tick s).2.par = s.par := by simp [tick]

@[simp] theorem rsInput_sh (s : State) : (rsInput s).sh = s.sh := by simp [rsInput]
@[simp] theorem rsInput_pe (s : State) : (rsInput s).pe = s.pe := by simp [rsInput]
@[simp] theorem rsInput_pipe (s : State) : (rsInput s).pipe = s.pipe := by simp [rsInput]
@[simp] theorem rsInput_mon (s : State) : (rsInput s).mon = s.mon := by simp [rsInput]
@[simp] theorem rsInput_out (s : State) : (rsInput s).out = s.out := by simp [rsInput]
@[simp] theorem rsInput_par (s : State) : (rsInput s).par = s.par := by simp [rsInput]

@[simp] theorem rsPull_sh (n : Nat) (s : State) : (rsPull n s).sh = s.sh := by
  induction n generalizing s with
  | zero => rfl
  | succ n ih => unfold rsPull; split <;> simp [ih]
@[simp] theorem rsPull_pe (n : Nat) (s : State) : (rsPull n s).pe = s.pe := by
  induction n generalizing s with
  | zero => rfl
  | succ n ih => unfold rsPull; split <;> simp [ih]
@[simp] theorem rsPull_pipe (n : Nat) (s : State) : (rsPull n s).pipe = s.pipe := by
  induction n generalizing s with
  | zero => rfl
  | succ n ih => unfold rsPull; split <;> simp [ih]
@[simp] theorem rsPull_mon (n : Nat) (s : State) : (rsPull n s).mon = s.mon := by
  induction n generalizing s with
  | zero => rfl
  | succ n ih => unfold rsPull; split <;> simp [ih]
@[simp] theorem rsPull_out (n : Nat) (s : State) : (rsPull n s).out = s.out := by
  induction n generalizing s with
  | zero => rfl
  | succ n ih => unfold rsPull; split <;> simp [ih]
@[simp] theorem rsPull_par (n : Nat) (s : State) : (rsPull n s).par = s.par := by
  induction n generalizing s with
  | zero => rfl
  | succ n ih => unfold rsPull; split <;> simp [ih]

@[simp] theorem rsOut_sh (s : State) : (rsOut s).2.sh = s.sh := by simp [rsOut]
@[simp] theorem rsOut_pe (s : State) : (rsOut s).2.pe = s.pe := by simp [rsOut]
@[simp] theorem rsOut_pipe (s : State) : (rsOut s).2.pipe = s.pipe := by simp [rsOut]
@[simp] theorem rsOut_mon (s : State) : (rsOut s).2.mon = s.mon := by simp [rsOut]
@[simp] theorem rsOut_out (s : State) : (rsOut s).2.out = s.out := by simp [rsOut]
@[simp] theorem rsOut_par (s : State) : (rsOut s).2.par = s.par := by simp [rsOut]

end Sys2Proof.Machine
end

