-- ==== Sys2Proof/Laws/Ops.lean ====
section
/-! SUPPORT. What each shared operation of Sys2Proof/Machine/Flags.lean and Sys2Proof/Machine/Ops.lean can do, said once. -/

namespace Sys2Proof.Machine

/-! ### Flags -/

/-- Setting flag `n` turns bit `n` on and leaves the others. -/
theorem errWith_getLsbD (e : BitVec 7) {n k : Nat} (hk : k < 7) :
    (errWith e n).getLsbD k = (e.getLsbD k || decide (k = n)) := by
  unfold errWith
  rw [BitVec.getLsbD_or, BitVec.getLsbD_twoPow]
  congr 1
  by_cases h : k = n
  · subst h; simp [hk]
  · simp [h, Ne.symm h]

/-- A set flag stays set. -/
theorem errWith_of_set {e : BitVec 7} {n k : Nat} (hk : k < 7) (h : e.getLsbD k = true) :
    (errWith e n).getLsbD k = true := by rw [errWith_getLsbD e hk, h, Bool.true_or]

/-- `raise` is one update of the control registers (60_exceptions.md R362). -/
theorem raise_eq (c : ErrorClass) (code : BitVec 8) (s : State) :
    raise c code s = s.setCtl { s.ctl with err := errWith s.ctl.err (errBit c), errInfo := code } := rfl

/-- No error class is a status event's flag. -/
theorem errBit_lt (c : ErrorClass) : errBit c < 5 := by cases c <;> decide

/-! ### The environment -/

/-- All that asking the audio source can change is the environment. -/
theorem drawAudio_snd (s : State) : (drawAudio s).2 = s.setWorld (drawAudio s).2.world := by
  unfold drawAudio; split <;> rfl

/-- All that asking the sink can change is the environment. -/
theorem drawSink_snd (s : State) : (drawSink s).2 = s.setWorld (drawSink s).2.world := by
  unfold drawSink; split <;> rfl

/-! ### Adoption -/

/-- adopt_station() in full (20_memory.md R82). -/
theorem adoptStation_cases (s : State) :
    (s.flags.pendRds = false ∧ adoptStation s = s) ∨
    (s.flags.pendRds = true ∧
      adoptStation s = (s.setFlags { s.flags with rtAb := nextRtAb s, pendRds := false }).setAc
        { s.ac with station := s.pe.station }) := by
  unfold adoptStation
  cases h : s.flags.pendRds <;> simp

/-- adopt_audio() in full (20_memory.md R83). -/
theorem adoptAudio_cases (s : State) :
    (s.flags.pendAud = false ∧ adoptAudio s = s) ∨
    (s.flags.pendAud = true ∧
      adoptAudio s = (s.setFlags { s.flags with pendAud := false }).setAc { s.ac with audio := s.pe.audio }) := by
  unfold adoptAudio
  cases h : s.flags.pendAud <;> simp

/-- After a station adoption the active station half is the pending one if one waited. -/
theorem adoptStation_ac (s : State) :
    (adoptStation s).ac = if s.flags.pendRds then { s.ac with station := s.pe.station } else s.ac := by
  unfold adoptStation; split <;> rfl

/-- After an audio adoption the active audio half is the pending one if one waited. -/
theorem adoptAudio_ac (s : State) :
    (adoptAudio s).ac = if s.flags.pendAud then { s.ac with audio := s.pe.audio } else s.ac := by
  unfold adoptAudio; split <;> rfl

/-- The flags after a station adoption. -/
theorem adoptStation_flags (s : State) :
    (adoptStation s).flags = if s.flags.pendRds then { s.flags with rtAb := nextRtAb s, pendRds := false } else s.flags := by
  unfold adoptStation; split <;> rfl

/-- The flags after an audio adoption. -/
theorem adoptAudio_flags (s : State) :
    (adoptAudio s).flags = if s.flags.pendAud then { s.flags with pendAud := false } else s.flags := by
  unfold adoptAudio; split <;> rfl

/-- Nothing of the station half waits after its adoption. -/
theorem adoptStation_pendRds (s : State) : (adoptStation s).flags.pendRds = false := by
  rw [adoptStation_flags]; split <;> simp_all

/-- Nothing of the audio half waits after its adoption. -/
theorem adoptAudio_pendAud (s : State) : (adoptAudio s).flags.pendAud = false := by
  rw [adoptAudio_flags]; split <;> simp_all

/-- The padded texts agree exactly when all 64 characters do (20_memory.md R82). -/
theorem paddedText_eq_iff (a b : Station) : a.paddedText = b.paddedText ↔ ∀ i : Fin 64, a.rtp i = b.rtp i := by
  unfold Station.paddedText
  rw [List.ofFn_inj]
  exact funext_iff

/-! ### Teardown -/

/-- The active copy after a teardown: each half that waited is adopted (46_delivery_pipeline.md R341). -/
theorem teardown_ac (s : State) :
    (teardown s).ac =
      ⟨if s.flags.pendRds then s.pe.station else s.ac.station, if s.flags.pendAud then s.pe.audio else s.ac.audio⟩ := by
  unfold teardown
  rw [adoptAudio_ac, adoptStation_ac, adoptStation_flags]
  cases h1 : s.flags.pendRds <;> cases h2 : s.flags.pendAud <;> simp [pulseRelease, h1, h2]

/-- Nothing waits after a teardown. -/
theorem teardown_pending (s : State) : (teardown s).flags.pendRds = false ∧ (teardown s).flags.pendAud = false := by
  constructor
  · unfold teardown
    rw [adoptAudio_flags]
    split <;> simp [adoptStation_pendRds]
  · exact adoptAudio_pendAud _

/-- The pipeline after a teardown: IDLE, no stop waiting, the rest as it stood. -/
theorem teardown_pipe (s : State) : (teardown s).pipe = { s.pipe with stream := .idle, stopReq := false } := by
  simp [teardown, pulseRelease]

end Sys2Proof.Machine
end

