-- ==== Sys2Proof/Laws/Tick.lean ====
section
/-! SUPPORT. What the engine's operations can do to the parts of the state they do change: the cursor, the copies, ERR, the counters. -/

namespace Sys2Proof.Machine

/-! ### The audio frame -/

/-- The control registers after fetch_frame(): AIN_UNDER is set exactly when nothing was there (43_audio_conditioning.md R241). -/
theorem fetchFrame_ctl (s : State) :
    (fetchFrame s).2.ctl =
      if (drawAudio s).1 = none then { s.ctl with err := errWith s.ctl.err ainUnderBit } else s.ctl := by
  unfold fetchFrame; dsimp only; split <;> simp_all [setErrFlag]

/-- The frame: what the source answered, or silence. -/
theorem fetchFrame_fst (s : State) : (fetchFrame s).1 = (drawAudio s).1.getD ⟨0, 0⟩ := by
  unfold fetchFrame; dsimp only; split <;> simp_all

/-- The environment after fetch_frame() is the one the source's answer left. -/
theorem fetchFrame_world (s : State) : (fetchFrame s).2.world = (drawAudio s).2.world := by
  unfold fetchFrame; dsimp only; split <;> simp_all

/-! ### The group encoder and the modulator -/

/-- A 4A group is built from the active copy alone (41_group_encoder.md R186). -/
theorem build4A_snd (s : State) : (build4A s).2 = s := rfl

/-- The modulator and the counts of a bit step at a group boundary, and otherwise (42_subcarrier_modulator.md R212). -/
theorem bitStep_eq (s : State) :
    bitStep s = if s.modu.bitIdx = 0 then (groupBoundary s).setModu (shiftBit (groupBoundary s).modu)
      else s.setModu (shiftBit s.modu) := by
  unfold bitStep; split <;> simp [*]

/-- The active copy after a modulator step: as it was, or with the pending station half adopted. -/
theorem modulatorStep_ac (s : State) :
    (modulatorStep s).ac = s.ac ∨ (s.flags.pendRds = true ∧ (modulatorStep s).ac = { s.ac with station := s.pe.station }) := by
  unfold modulatorStep bitStep
  split
  · dsimp only
    split
    · simp only [groupBoundary, State.setModu_ac, State.setCnt_ac, nextGroup_ac]
      rcases adoptStation_cases s with ⟨_, h⟩ | ⟨hp, h⟩
      · left; rw [h]
      · right; exact ⟨hp, by rw [h]; simp⟩
    · left; simp
  · exact .inl rfl

/-- The flags after a modulator step: as they were, or those of a station adoption. -/
theorem modulatorStep_flags (s : State) :
    (modulatorStep s).flags = s.flags ∨ (modulatorStep s).flags = (adoptStation s).flags := by
  unfold modulatorStep bitStep
  split
  · dsimp only
    split
    · right; simp [groupBoundary]
    · left; simp
  · exact .inl rfl

/-! ### The tick -/

/-- The active copy a tick works with: each half as it was, or adopted because it waited (44_multiplex_composer.md R290). -/
theorem tickFront_ac (s : State) :
    ((tickFront s).ac.station = s.ac.station ∨ (s.flags.pendRds = true ∧ (tickFront s).ac.station = s.pe.station)) ∧
    (tickFront s).ac.audio = if s.flags.pendAud then s.pe.audio else s.ac.audio := by
  unfold tickFront
  have ha := adoptAudio_ac s
  have hf := adoptAudio_flags s
  rcases modulatorStep_ac (adoptAudio s) with h | ⟨hp, h⟩ <;> rw [h]
  · rw [ha]; cases s.flags.pendAud <;> simp
  · rw [ha]
    rw [hf] at hp
    cases hq : s.flags.pendAud <;> simp_all

/-- The two errors a tick can flag: AIN_UNDER and CLIP; ERR_INFO and the other control registers stay (R282, R241). -/
theorem tick_ctl (s : State) :
    (tick s).2.ctl = { s.ctl with err := (tick s).2.ctl.err } ∧
    ∀ k, k < 7 → (tick s).2.ctl.err.getLsbD k =
      (s.ctl.err.getLsbD k || (decide (k = ainUnderBit) && (drawAudio (tickFront s)).1.isNone) ||
        (decide (k = clipBit) && decide ((tickParts s).comp ≠ (tickParts s).sum))) := by
  have hf := fetchFrame_ctl (tickFront s)
  rw [tickFront_ctl] at hf
  have hc : (tick s).2.ctl = if (tickParts s).comp = (tickParts s).sum then (fetchFrame (tickFront s)).2.ctl
      else { (fetchFrame (tickFront s)).2.ctl with err := errWith (fetchFrame (tickFront s)).2.ctl.err clipBit } := by
    simp only [tick, advanceCounters, clipCheck]
    split <;> simp [setErrFlag]
  rw [hc, hf]
  refine ⟨by split <;> split <;> rfl, fun k hk => ?_⟩
  cases hd : (drawAudio (tickFront s)).1 <;> by_cases h : (tickParts s).comp = (tickParts s).sum
  · rw [if_pos h, if_pos rfl]; simp only [errWith_getLsbD _ hk]; simp [h]
  · rw [if_neg h, if_pos rfl]; simp only [errWith_getLsbD _ hk]; simp [h]
  · rw [if_pos h, if_neg (by simp)]; simp [h]
  · rw [if_neg h, if_neg (by simp)]; simp only [errWith_getLsbD _ hk]; simp [h]

/-- The parts of the state after a tick that it computes from its frame and its sum (R288, R291). -/
theorem tick_parts (s : State) :
    (tick s).1 = (tickParts s).comp ∧ (tick s).2.ac = (tickFront s).ac ∧ (tick s).2.flags = (tickFront s).flags ∧
    (tick s).2.cur = (tickFront s).cur ∧ (tick s).2.cond = (tickAudio s).next ∧
    (tick s).2.acc = accumulate (tickParts s) s.acc ∧
    (tick s).2.modu =
      { (tickFront s).modu with phase := (tickFront s).modu.phase + 1, bitPh := (tickFront s).modu.bitPh + 1 } ∧
    (tick s).2.cnt = ⟨(tickFront s).cnt.groupCount, (tickFront s).cnt.tick + 1⟩ ∧
    (tick s).2.world = (drawAudio (tickFront s)).2.world := by
  have hw := fetchFrame_world (tickFront s)
  simp only [tick, advanceCounters, clipCheck]
  split <;> simp [setErrFlag, hw]

/-- In IDLE no tick runs (R290). -/
theorem execTick_idle {s : State} (h : s.pipe.stream = .idle) : execTick s = .next s := by simp [execTick, h]

/-- While STREAMING the row is one tick, and its sample is shown (R290). -/
theorem execTick_streaming {s : State} (h : s.pipe.stream = .streaming) : execTick s = .next (sampleRow tick s) := by
  simp [execTick, h]

/-- A row that shows a sample changes what its step changes, and the output (log 3). -/
theorem sampleRow_eq (run : State → Int × State) (s : State) :
    sampleRow run s = (run s).2.setOut { (run s).2.out with engine := .sample (toSample (run s).1) } := rfl

end Sys2Proof.Machine
end

