-- ==== Sys2Proof/Laws/Encoder.lean ====
section
/-! SUPPORT. The schedule walk and the builders of the group encoder: what each does when the schedule is not empty
(41_group_encoder.md R180 to R186). -/

namespace Sys2Proof.Machine

/-- The guard only ever sets SCHED_IDX to 0 (R181). -/
theorem schedGuard_eq (s : State) :
    schedGuard s = s.setCur { s.cur with
      schedIdx := if s.ac.station.schedLen.toNat ≤ s.cur.schedIdx.toNat then 0 else s.cur.schedIdx } := by
  unfold schedGuard; split <;> rfl

/-- On a schedule that is not empty the advance only moves SCHED_IDX (R181). -/
theorem schedAdvance_eq {s : State} (h : s.ac.station.schedLen.toNat ≠ 0) :
    schedAdvance s = s.setCur { s.cur with
      schedIdx := BitVec.ofNat 5 ((s.cur.schedIdx.toNat + 1) % s.ac.station.schedLen.toNat) } := by
  unfold schedAdvance; simp [h]

/-- build_0A() moves the cursor and nothing else (R184). -/
theorem build0A_snd (s : State) : (build0A s).2 = s.setCur (build0A s).2.cur := by
  unfold build0A; dsimp only; rw [show afGuard s = s.setCur (afGuard s).cur from by unfold afGuard; split <;> rfl]; rfl

/-- build_2A() moves the cursor and nothing else (R185). -/
theorem build2A_snd (s : State) : (build2A s).2 = s.setCur (build2A s).2.cur := rfl

/-- A slot of the schedule moves the cursor and nothing else, unless its code is the reserved one (R180). -/
theorem buildSlot_snd {code : BitVec 2} (h : code ≠ 3) (s : State) :
    (buildSlot code s).2 = s.setCur (buildSlot code s).2.cur := by
  unfold buildSlot
  split
  · exact build0A_snd s
  · split
    · exact build2A_snd s
    · split
      · rfl
      · exfalso
        have : ∀ c : BitVec 2, c ≠ 3 → c ≠ 0 → c ≠ 1 → c = 2 := by decide
        rename_i h0 h1 h2
        exact h2 (this code h h0 h1)

/-- The group a slot builds carries PI in block 1 and has the form of R187. -/
theorem buildSlot_fst {code : BitVec 2} (h : code ≠ 3) (s : State) :
    ∃ b2 b3 b4, (buildSlot code s).1 = assemble s.ac.station.pi b2 b3 b4 := by
  unfold buildSlot
  split
  · have e : s.ac.station.pi = (afGuard s).ac.station.pi := by rw [afGuard_ac]
    rw [e]; exact ⟨_, _, _, rfl⟩
  · split
    · exact ⟨_, _, _, rfl⟩
    · split
      · exact ⟨_, _, _, rfl⟩
      · exfalso
        have : ∀ c : BitVec 2, c ≠ 3 → c ≠ 0 → c ≠ 1 → c = 2 := by decide
        rename_i h0 h1 h2
        exact h2 (this code h h0 h1)

/-- SCHED_IDX is not a builder's to move (R184 to R186). -/
theorem buildSlot_schedIdx {code : BitVec 2} (h : code ≠ 3) (s : State) :
    (buildSlot code s).2.cur.schedIdx = s.cur.schedIdx := by
  unfold buildSlot
  split
  · unfold build0A afGuard; dsimp only; split <;> rfl
  · split
    · rfl
    · split
      · rfl
      · exfalso
        have : ∀ c : BitVec 2, c ≠ 3 → c ≠ 0 → c ≠ 1 → c = 2 := by decide
        rename_i h0 h1 h2
        exact h2 (this code h h0 h1)

/-- One turn of the walk over a slot in use (R181). -/
theorem walkSchedule_succ (n : Nat) (s : State) :
    walkSchedule (n + 1) s =
      if s.ac.station.slotAt s.cur.schedIdx = 2 ∧ s.ac.station.ctValid = false then walkSchedule n (schedAdvance s)
      else (some (s.ac.station.slotAt s.cur.schedIdx), schedAdvance s) := rfl

/-- With a time source no slot is skipped: the walk takes one turn (R181 (b)). -/
theorem selectSlot_of_ctValid {s : State} (h : s.ac.station.ctValid = true) (hn : s.ac.station.schedLen.toNat ≠ 0) :
    selectSlot s =
      (some (s.ac.station.slotAt (schedGuard s).cur.schedIdx), schedAdvance (schedGuard s)) := by
  unfold selectSlot
  obtain ⟨n, hn⟩ := Nat.exists_eq_succ_of_ne_zero hn
  rw [hn, walkSchedule_succ]
  simp [h]

end Sys2Proof.Machine
end

