-- ==== Sys2Proof/Laws/Delivery.lean ====
section
/-! SUPPORT. The rate converter and the delivery pipeline: what one turn, one rs_out and one take can do (45_rate_converter.md R304,
46_delivery_pipeline.md R336 to R342). -/

namespace Sys2Proof.Machine

/-- One turn of rs_out is a tick, but for the converter (R304). -/
theorem rsInput_conv (s : State) :
    (rsInput s).conv.entry = s.conv.entry ∧
      (rsInput s).conv.pos.toNat = (s.conv.pos.toNat - s.conv.entry.l.val) % 2048 ∧
      (rsInput s).cnt = (tick s).2.cnt := by
  unfold rsInput; simp

/-- A property that every tick keeps is kept by the loop of rs_out. -/
theorem rsPull_induction {P : State → Prop} (hstep : ∀ s, P s → P (rsInput s)) :
    ∀ (n : Nat) (s : State), P s → P (rsPull n s) := by
  intro n
  induction n with
  | zero => exact fun s h => h
  | succ n ih =>
    intro s h
    unfold rsPull
    split
    · exact ih _ (hstep s h)
    · exact h

/-- A property that ticks and changes of the converter keep is kept by rs_out. -/
theorem rsOut_induction {P : State → Prop} (hconv : ∀ s c, P s → P (s.setConv c)) (htick : ∀ s, P s → P (tick s).2)
    (s : State) (h : P s) : P (rsOut s).2 := by
  unfold rsOut
  exact hconv _ _ (rsPull_induction (fun s h => hconv _ _ (htick s h)) _ s h)

/-- One turn of rs_out is one tick and a new converter (R304). -/
theorem rsInput_eq (s : State) : rsInput s = (tick s).2.setConv (rsInput s).conv := rfl

/-- Without a live stream the converter does not run (R302, 44_multiplex_composer.md R290). -/
theorem execRsOut_of_not_live {s : State} (h : s.pipe.stream = .idle ∨ s.pipe.liveAct = false) : execRsOut s = .next s := by
  rcases h with h | h <;> simp [execRsOut, h]

/-- While a live stream runs the row is one rs_out, and its sample is shown (R304). -/
theorem execRsOut_live {s : State} (h : s.pipe.stream = .streaming) (hl : s.pipe.liveAct = true) :
    execRsOut s = .next (sampleRow rsOut s) := by
  simp [execRsOut, h, hl]

/-- The end of a buffer: the latch, the cleared accumulators and, if a STOP waits, the teardown (R339). -/
theorem bufferComplete_eq (s : State) :
    bufferComplete s =
      if s.pipe.stopReq then
        teardown (((s.setPipe { s.pipe with bufPos := 0 }).setMon (latchMonitors s)).setAcc Accumulators.reset)
      else ((s.setPipe { s.pipe with bufPos := 0 }).setMon (latchMonitors s)).setAcc Accumulators.reset := rfl

/-- The count of a take: one more in the buffer, or the buffer's end (R336). -/
theorem countTake_eq (s : State) :
    countTake s =
      if s.pipe.bufPos + 1 = s.pipe.bufLenAct then
        bufferComplete (s.setPipe { s.pipe with bufPos := s.pipe.bufPos + 1 })
      else s.setPipe { s.pipe with bufPos := s.pipe.bufPos + 1 } := rfl

/-- A take of a file stream: one tick (R336). -/
theorem sinkTake_file {s : State} (h : s.pipe.stream = .streaming) (hl : s.pipe.liveAct = false) :
    sinkTake s = ((toSample (tick s).1, fileWord s.par.fileScale (tick s).1), countTake (tick s).2) := by
  unfold sinkTake; simp [h, hl]

/-- A take of a live stream: one rs_out (R336). -/
theorem sinkTake_live {s : State} (h : s.pipe.stream = .streaming) (hl : s.pipe.liveAct = true) :
    sinkTake s = ((toSample (rsOut s).1, f32OfQ (rsOut s).1), countTake (rsOut s).2) := by
  unfold sinkTake; simp [h, hl]

/-- The state after a take, by STATE and mode (R336, R337). -/
theorem sinkTake_snd (s : State) :
    (sinkTake s).2 =
      if s.pipe.stream = .idle then s
      else countTake (if s.pipe.liveAct then (rsOut s).2 else (tick s).2) := by
  unfold sinkTake
  cases s.pipe.stream <;> simp
  split <;> simp_all

end Sys2Proof.Machine
end

