-- ==== Sys2Proof/Laws/Fetch.lean ====
section
/-! SUPPORT. What taking a request can do (00_scope.md R16; log 1, log 2). -/

namespace Sys2Proof.Machine

/-- Taking a request changes the environment's lists and quiets the ports, nothing else. -/
theorem takeRequest_snd (s : State) :
    (takeRequest s).2 = (s.setWorld (takeRequest s).2.world).setOut Outputs.quiet := by
  unfold takeRequest
  split
  · rfl
  · split <;> rfl

/-- No row is left before the machine once a request is taken. -/
@[simp] theorem takeRequest_row (s : State) : (takeRequest s).2.world.row = none := by
  unfold takeRequest
  split
  · rfl
  · split <;> simpa [bumpDraws]

/-- With no row put before the machine the request is an agent's (00_scope.md R16, 44_multiplex_composer.md R290). -/
theorem takeRequest_of_no_row {s : State} (h : s.world.row = none) : ∃ a, (takeRequest s).1 = requestOfAgent a := by
  unfold takeRequest
  rw [h]
  dsimp only
  split <;> exact ⟨_, rfl⟩

end Sys2Proof.Machine
end

