-- ==== Sys2Proof/Laws/HostOps.lean ====
section
/-! SUPPORT. What each command can do (40_host_operations.md R142 to R152). -/

namespace Sys2Proof.Machine

/-- All a COMMIT can do (R142): an error, a snapshot adopted at once, or a snapshot that waits. -/
theorem commit_cases (s : State) :
    (validate s.par s.sh ≠ 0 ∧ commit s = raise .configuration (validate s.par s.sh) s) ∨
    (validate s.par s.sh = 0 ∧ s.pipe.stream = .idle ∧ commit s = adoptAudio (adoptStation (snapshot s))) ∨
    (validate s.par s.sh = 0 ∧ s.pipe.stream = .streaming ∧ commit s = snapshot s) := by
  unfold commit
  by_cases h : validate s.par s.sh = 0
  · cases hs : s.pipe.stream <;> simp [h]
  · simp only [h, if_false]; exact .inl ⟨h, trivial⟩

/-- The active copy after a snapshot is adopted at once is the shadow copy (R142, 20_memory.md R84). -/
theorem adopt_snapshot_ac (s : State) : (adoptAudio (adoptStation (snapshot s))).ac = s.sh := by
  rw [adoptAudio_ac, adoptStation_ac, adoptStation_flags]; simp [snapshot]

/-- All START can do (R146): a refusal of its own, or what the sink's answer brings. -/
theorem start_cases (s : State) :
    (∃ c code, startRefusal s = some (c, code) ∧ start s = raise c code s) ∨
    (startRefusal s = none ∧
      ((sinkOpen (offeredRate s) s.ctl.live s).1 = .ok ∧ start s = beginStream (sinkOpen (offeredRate s) s.ctl.live s).2 ∨
       (sinkOpen (offeredRate s) s.ctl.live s).1 = .unavailable ∧
         start s = raise .sink 16 (sinkOpen (offeredRate s) s.ctl.live s).2 ∨
       (sinkOpen (offeredRate s) s.ctl.live s).1 = .unsupported ∧
         start s = raise .sink 17 (sinkOpen (offeredRate s) s.ctl.live s).2)) := by
  unfold start
  cases h : startRefusal s with
  | some e => exact .inl ⟨e.1, e.2, rfl, rfl⟩
  | none =>
    right
    refine ⟨rfl, ?_⟩
    dsimp only
    split <;> rename_i ha <;> rw [ha] <;> simp

/-- Asking the sink changes the environment and the port, nothing else (10_state.md R59). -/
theorem sinkOpen_snd (rate : Word) (live : Bool) (s : State) :
    (sinkOpen rate live s).2 =
      (s.setOut { s.out with sinkOpen := some (rate, live) }).setWorld (sinkOpen rate live s).2.world := by
  unfold sinkOpen; exact drawSink_snd _

/-- All STOP can do (R150). -/
theorem stop_cases (s : State) :
    (s.pipe.stream = .idle ∧ stop s = s) ∨
    (s.pipe.stream = .streaming ∧ s.pipe.bufPos = 0 ∧ stop s = teardown s) ∨
    (s.pipe.stream = .streaming ∧ s.pipe.bufPos ≠ 0 ∧ stop s = s.setPipe { s.pipe with stopReq := true }) := by
  unfold stop
  cases s.pipe.stream
  · exact .inl ⟨rfl, rfl⟩
  · by_cases h : s.pipe.bufPos = 0
    · exact .inr (.inl ⟨rfl, h, by simp only [h, if_true]⟩)
    · exact .inr (.inr ⟨rfl, h, by simp only [h, if_false]⟩)

/-- A bank entry that is looked up is one of the bank's, at the rate asked for (45_rate_converter.md R301). -/
theorem mem_of_bankLookup {par : Params} {rate : Word} {e : BankEntry} (h : bankLookup par rate = some e) :
    (rate, e) ∈ par.rsBank := by
  unfold bankLookup at h
  rw [List.lookup_eq_some_iff] at h
  obtain ⟨l1, l2, hb, _⟩ := h
  rw [hb]; simp

end Sys2Proof.Machine
end

