-- ==== Sys2Proof/Tests/Slice0.lean ====
section
/-! SUPPORT. Tests. Expected values are the spec's: spec/30_encoding.md for the words, spec/95_test_vectors.md (V1 to V17, P1, P2) and
the examples in the rules for the rest. The theorems that begin with `witness` show states and operands that meet the hypotheses of a
statement of Sys2Proof/Certificates/Slice0/Obligations.lean. -/

-- one theorem after the other: elaborated at once they ask for more threads than a small machine grants
set_option Elab.async false

namespace Sys2Proof.Machine.Tests

/-! ### Well-formedness: the one check -/

theorem test_illformed_reserved_opcode_4 : wellFormed (.cmdReserved 4 0) = false := by decide
theorem test_wellformed_reserved_opcode_5 : wellFormed (.cmdReserved 5 0) = true := by decide

/-! ### Decoding: a word of each row written out from 30_encoding.md -/

-- R101: write = 1 at bit 41, A = 0x010 at bits 40..32 (P1 prints WR PI, 0x1234 as 0x21000001234)
theorem test_decode_wr : decode (.bus 0x21000001234#42) = some (.wr 0x010 0x1234) := by decide
-- P1 prints RD STATUS as 0x00200000000
theorem test_decode_rd : decode (.bus 0x00200000000#42) = some (.rd 0x002 0) := by decide
-- R102: opcode in bits 7..0, bits 31..8 ignored
theorem test_decode_nop : decode (.cmd 0b00000000000000000000001100000000#32) = some (.nop 3) := by decide
theorem test_decode_commit : decode (.cmd 0x00000101#32) = some (.commit 1) := by decide
theorem test_decode_start : decode (.cmd 0x00000002#32) = some (.start 0) := by decide
theorem test_decode_stop : decode (.cmd 0xABCDEF03#32) = some (.stop 0xABCDEF) := by decide
theorem test_decode_soft_reset : decode (.cmd 0x00000004#32) = some (.softReset 0) := by decide
theorem test_decode_cmd_reserved : decode (.cmd 0x00000080#32) = some (.cmdReserved 0x80 0) := by decide
-- R112: the four schedule codes
theorem test_decode_slot_0a : decode (.slot 0b00#2) = some .slot0A := by decide
theorem test_decode_slot_2a : decode (.slot 0b01#2) = some .slot2A := by decide
theorem test_decode_slot_4a : decode (.slot 0b10#2) = some .slot4A := by decide
theorem test_decode_slot_reserved : decode (.slot 0b11#2) = some .slotReserved := by decide
-- V5, P2's block 2: TP 1, PTY 10, TA 1, MS 1, DI bit 1, segment 0
theorem test_decode_group_0a :
    decode (.b2 0b0000010101011100#16) = some (.group0A true 10 true true true 0) := by decide
-- V5: RT_AB 1, segment 1
theorem test_decode_group_2a : decode (.b2 0b0010010101010001#16) = some (.group2A true 10 true 1) := by decide
-- V5: MJD bits 16..15 = 1
theorem test_decode_group_4a : decode (.b2 0b0100010101000001#16) = some (.group4A true 10 1) := by decide
-- R114: version B, an unused group type, and a spare bit of 4A are no block 2 of this hardware
theorem test_decode_refuses_other_block_two :
    decode (.b2 0x0800#16) = none ∧ decode (.b2 0x1000#16) = none ∧ decode (.b2 0x4004#16) = none := by decide
-- V1: block26(0x1234, A) = 0x048D06A
theorem test_decode_block : decode (.block 0x048D06A#26) = some (.block 0x1234 0x06A) := by decide
-- V5, first group of P1
theorem test_decode_group :
    decode (.group 0x12341A8000198E0CD7A549046E#104) = some (.group 0x048D06A 0x0000198 0x38335E9 0x149046E) := by decide
theorem test_decode_events :
    decode (.event .tick) = some .tick ∧ decode (.event .bit) = some .bit ∧
    decode (.event .nextGroup) = some .nextGroup ∧ decode (.event .rsOut) = some .rsOut ∧
    decode (.event .sinkTake) = some .sinkTake ∧ decode (.event .sinkFail) = some .sinkFail ∧
    decode (.event .hwReset) = some .hwReset := by decide
-- the numbering of spec/opcode_table.json
theorem test_decode_table_words :
    decodeTableWord 42 0x21000001234 = some (.wr 0x010 0x1234) ∧ decodeTableWord 32 0x80 = some (.cmdReserved 0x80 0) ∧
    decodeTableWord 2 3 = some .slotReserved ∧ decodeTableWord 26 0x048D06A = some (.block 0x1234 0x06A) := by decide

/-! ### Small states -/

/-- V5's P1 station: PI 0x1234, PS "RASP-PI ", RT "Hello, world". -/
def p1Station : Station :=
  { Station.reset with
    pi := 0x1234, psLen := 8, ps := #v[0x50534152, 0x2049502D], rtLen := 12,
    rt := #v[0x6C6C6548, 0x77202C6F, 0x646C726F, 0, 0, 0, 0, 0, 0, 0, 0, 0, 0, 0, 0, 0] }

/-- The settings of P1. -/
def p1 : Settings := ⟨p1Station, Audio.reset⟩

/-- A committed machine in IDLE, its shadow copy `c`. -/
def idleWith (c : Settings) : State :=
  (((State.reset.setSh c).setPe p1).setAc p1).setFlags ⟨false, false, true, true⟩

/-- A committed machine in IDLE. -/
def idleState : State := idleWith p1

/-- A stream with `pos` takes made of the buffer in flight of `len`. -/
def streamAt (live stop : Bool) (pos len : BitVec 13) : State :=
  idleState.setPipe ⟨.streaming, stop, pos, live, len⟩

/-- The state with listed answers of the audio source and the sink. -/
def withAnswers (s : State) (a : List (Option Frame)) (k : List SinkAnswer) : State :=
  s.setWorld { s.world with audio := a, sink := k }

/-- The next state, if there is one. -/
def nextOf (o : Host.Outcome State Fault Refusal) : Option State :=
  match o with
  | .next t => some t
  | _ => none

/-- One value of the next state. -/
def after {α : Type} (i : Instr) (s : State) (f : State → α) : Option α := (nextOf (exec i s)).map f

/-! ### One step, values from the spec -/

-- V16
theorem test_rd_id : after (.rd 0 0) State.reset (fun t => t.out.rdata) = some (some 0x50464D37) := by decide
-- V16: WR PI, 0xABCD1234 then RD PI -> 0x1234
theorem test_wr_masks_the_field :
    after (.wr 0x10 0xABCD1234) State.reset (fun t => memRead 0x10 t) = some 0x1234 := by decide
-- V8: SEP out of range, with PI 0 too: the first failing check wins
theorem test_commit_names_pi_first :
    after (.commit 0) (State.reset.setSh ⟨Station.reset, { Audio.reset with sep := 40000 }⟩)
      (fun t => (t.ctl.err, t.ctl.errInfo)) = some (0x01, 1) := by decide
-- P1: STATUS 0x60 after COMMIT (CFG_VALID and RT_AB)
theorem test_commit_p1_status :
    after (.commit 0) (State.reset.setSh p1) statusWord = some 0x60 := by decide
-- V8: sink answers UNSUPPORTED
theorem test_start_unsupported :
    after (.start 0) (withAnswers idleState [] [.unsupported]) (fun t => (t.ctl.err, t.ctl.errInfo)) =
      some (0x02, 17) := by decide
-- P1: STATUS 0x61 after START
theorem test_start_p1_status :
    after (.start 0) (withAnswers idleState [] [.ok]) statusWord = some 0x61 := by decide
-- R150 (c): inside a buffer STOP only waits
theorem test_stop_waits :
    after (.stop 0) (streamAt false false 57 192) (fun t => (t.pipe.stream, t.pipe.stopReq)) =
      some (.streaming, true) := by decide
-- V8: WR CMD, 0x80
theorem test_reserved_command :
    after (.wr 1 0x80) State.reset (fun t => (t.ctl.err, t.ctl.errInfo)) = some (0x10, 49) := by decide
-- R151: PI is gone after SOFT_RESET
theorem test_soft_reset_clears_the_shadow_copy :
    after (.softReset 0) idleState (fun t => (memRead 0x10 t, t.flags.cfgValid)) = some (0, false) := by decide
-- V5: 0A of P1 at PS_IDX 3
theorem test_group_0a_p1 :
    after (.group0A false 0 false false false 0) (idleState.setCur ⟨0, 3, 0, 0⟩) (fun t => (t.out.engine, t.cur.psIdx)) =
      some (.group 0x12341A8000F53E0CD7A5248211, 0) := by decide +kernel
-- V5: 2A of P1 with RT_AB 1
theorem test_group_2a_p1 :
    after (.group2A false 0 false 0) idleState (fun t => (t.out.engine, t.cur.rtIdx)) =
      some (.group 0x12341A88041884865309B1B27B, 1) := by decide +kernel
-- V5: 4A of PI 0x1234, MJD 61354, 14:37, +2
theorem test_group_4a :
    after (.group4A false 0 0)
      (State.reset.setAc ⟨{ Station.reset with pi := 0x1234, ctValid := true, ctMjd := 61354, hour := 14, minute := 37, offMag := 2 },
        Audio.reset⟩) (fun t => t.out.engine) = some (.group 0x12341A90006C6DF545AFA5084B) := by decide +kernel
-- V6: slot 5 is a 4A slot, skipped with CT_VALID 0; slot 0 is used
theorem test_next_group_skips_clock_time :
    after .nextGroup (idleState.setCur ⟨5, 0, 0, 0⟩) (fun t => (t.cur.schedIdx, t.cur.psIdx)) = some (1, 1) := by decide +kernel
-- V1: the syndromes of a block of offset A
theorem test_block_syndrome :
    after (.block 0x1234 0x06A) State.reset (fun t => t.out.engine) = some (.syndromes [0x0FC]) := by decide +kernel
-- P1's second take: 373710 and 0x3D3679C0
theorem test_take_p1_second :
    after .sinkTake
      (withAnswers ((streamAt false false 1 192).setModu
        { Modulator.reset with bitIdx := 1, bitPh := 1, sym0 := .minus, phase := 1 }) [some ⟨0, 0⟩] [])
      (fun t => (t.out.sample, t.pipe.bufPos)) = some (some (373710, 0x3D3679C0), 2) := by decide +kernel
-- V10, tick 0: the composite and ENV
theorem test_tick_v10 :
    after .tick (withAnswers (streamAt false false 0 192) [some ⟨1000000, BitVec.ofInt 24 (-500000)⟩] [])
      (fun t => (t.out.engine, t.cond.env)) = some (.sample 875351, 4808) := by decide +kernel
-- V13: nothing there sets AIN_UNDER, ERR_INFO stays
theorem test_tick_underrun :
    after .tick (withAnswers (streamAt false false 0 192) [none] []) (fun t => (t.ctl.err, t.ctl.errInfo)) =
      some (0x20, 0) := by decide +kernel
-- R212: a source bit 1 flips DPREV, and the symbols shift
theorem test_bit_flips :
    after .bit (State.reset.setModu { Modulator.reset with groupSr := 0x12341A8000198E0CD7A549046E, bitIdx := 3, sym0 := .minus })
      (fun t => (t.modu.dprev, t.modu.sym0, t.modu.sym1, t.modu.bitIdx)) = some (true, .plus, .minus, 4) := by decide +kernel
-- V14: the first output of the constant 1000000 at a stream reset is 1007 (33 * 1000000 / 32768), here from a given history
theorem test_rs_out_first :
    after .rsOut ((streamAt true false 0 192).setConv
        { State.reset.conv with pos := 0, hist := (Vector.replicate 64 0).set 0 1000000 })
      (fun t => (t.out.engine, t.conv.pos)) = some (.sample 1007, 19) := by decide +kernel
-- R181 (e), R361: code 3 raises nothing, the walk moves on
theorem test_slot_reserved :
    after .slotReserved (idleState.setCur ⟨5, 0, 0, 0⟩) (fun t => (t.ctl.err, t.ctl.errInfo, t.cur.schedIdx)) =
      some (0, 0, 0) := by decide +kernel
-- R342: STATE reads IDLE, code 18
theorem test_sink_fail :
    after .sinkFail (streamAt false false 57 192) (fun t => (t.pipe.stream, t.ctl.err, t.ctl.errInfo)) =
      some (.idle, 0x02, 18) := by decide
-- R400: the configuration and the stream are gone
theorem test_hw_reset : after .hwReset idleState (fun t => (t.flags.cfgValid, t.ctl.bufLen)) = some (false, 1024) := by decide
-- V15
theorem test_f32 :
    f32OfQ 1 = 0x34000000 ∧ f32OfQ (-228) = 0xB7E40000 ∧ f32OfQ 8388607 = 0x3F7FFFFE ∧
    f32OfQ (-8388608) = 0xBF800000 := by decide
-- V3: 2, [981, 1053] and the empty list
theorem test_af_codes :
    ({ Station.reset with afCount := 2, af := (Vector.replicate 25 0).set 0 981 |>.set 1 1053 }).codeList =
      [226, 106, 178, 205] ∧ Station.reset.codeList = [224, 205] := by decide
-- V7: "A" and "A " are the same padded text
theorem test_padding_hides_a_space :
    ({ Station.reset with rtLen := 1, rt := (Vector.replicate 16 0).set 0 0x41 } : Station).paddedText =
      ({ Station.reset with rtLen := 2, rt := (Vector.replicate 16 0).set 0 0x2041 } : Station).paddedText := by decide
-- the table word placed for the next step is what the step runs
theorem test_fetch_word :
    (nextOf (step (State.reset.withFetchWord 42 0x21000001234))).map (fun t => (t.sh.station.pi, t.world.row)) =
      some (0x1234, none) := by decide

/-! ### Witnesses: hypotheses that can be met -/

theorem witness_decode_and_encode_agree :
    wellFormed (.cmdReserved 5 0xFFFFFF) = true ∧ wellFormed (.group4A true 31 3) = true ∧
    decode (.b2 0x07FF#16) = some (.group0A true 31 true true true 3) := by decide

theorem witness_step_runs_the_decoded :
    ((State.reset.setWorld { World.reset with script := [.sinkFail] }).world.row = none ∧
      (State.reset.setWorld { World.reset with script := [.sinkFail] }).world.script = [.sinkFail] ∧
      decode (requestOfAgent .sinkFail) = some .sinkFail) ∧
    (placeRow (.cmd 2) State.reset).world.row = some (.cmd 2) ∧ decode (.cmd 2) = some (.start 0) := by decide

theorem witness_step_of_the_free_environment :
    State.reset.world.row = none ∧ State.reset.world.script = [] := ⟨rfl, rfl⟩

theorem witness_unmapped_words :
    ∀ x, x ∈ [0x024, 0x03C, 0x06C, 0x07C, 0x124, 0x13C, 0x1E8, 0x1FC, 0x240, 0x43C, 0x46C, 0x47C, 0x524, 0x53C, 0x5E8, 0x7FC] →
      4 * (wordIndex x).toNat = x ∧ regAt (wordIndex x) = none := by decide

theorem witness_read_only_words :
    ∀ x, x ∈ [0x000, 0x008, 0x010, 0x200, 0x23C, 0x440, 0x5E4] →
      4 * (wordIndex x).toNat = x ∧ regAt (wordIndex x) ≠ none := by decide

/-- P1 with the station half changed. -/
def bad (f : Station → Station) : Settings := ⟨f p1Station, Audio.reset⟩

theorem witness_validate_pi : PiBad defaultParams Settings.reset := by unfold PiBad; decide
theorem witness_validate_text :
    ¬PiBad defaultParams (bad fun s => { s with rtLen := 65 }) ∧ TextBad (bad fun s => { s with rtLen := 65 }) := by
  unfold PiBad TextBad; decide
theorem witness_validate_af_count :
    ¬PiBad defaultParams (bad fun s => { s with afCount := 26 }) ∧ ¬TextBad (bad fun s => { s with afCount := 26 }) ∧
    AfCountBad (bad fun s => { s with afCount := 26 }) := by
  unfold PiBad TextBad AfCountBad; decide

/-- A configuration with one AF entry, 875, just below the range. -/
def badAf : Settings := bad fun s => { s with afCount := 1, af := s.af.set 0 875 }

/-- A configuration with a schedule of 33 slots. -/
def badSched : Settings := bad fun s => { s with schedLen := 33 }

/-- A configuration with hour 24 and the Clock-Time on. -/
def badCt : Settings := bad fun s => { s with ctValid := true, hour := 24 }

/-- A configuration with RDS_LEVEL one too high. -/
def badAudio : Settings := ⟨p1Station, { Audio.reset with rdsLevel := 3277 }⟩

theorem witness_validate_af : ¬PiBad defaultParams badAf ∧ ¬TextBad badAf ∧ ¬AfCountBad badAf ∧ AfBad badAf := by
  unfold PiBad TextBad AfCountBad AfBad; decide
theorem witness_validate_sched :
    ¬PiBad defaultParams badSched ∧ ¬TextBad badSched ∧ ¬AfCountBad badSched ∧ ¬AfBad badSched ∧ SchedBad badSched := by
  unfold PiBad TextBad AfCountBad AfBad SchedBad; decide
theorem witness_validate_ct :
    ¬PiBad defaultParams badCt ∧ ¬TextBad badCt ∧ ¬AfCountBad badCt ∧ ¬AfBad badCt ∧ ¬SchedBad badCt ∧ CtBad badCt := by
  unfold PiBad TextBad AfCountBad AfBad SchedBad CtBad; decide
theorem witness_validate_audio :
    ¬PiBad defaultParams badAudio ∧ ¬TextBad badAudio ∧ ¬AfCountBad badAudio ∧ ¬AfBad badAudio ∧ ¬SchedBad badAudio ∧
    ¬CtBad badAudio ∧ AudioBad badAudio := by
  unfold PiBad TextBad AfCountBad AfBad SchedBad CtBad AudioBad; decide

/-- P1's settings are legal. -/
theorem stationOk_p1 : StationOk p1 :=
  ⟨by unfold TextBad; decide, by unfold AfCountBad; decide, by unfold AfBad; decide, by unfold SchedBad; decide, by unfold CtBad; decide⟩

/-- P1's audio half is legal. -/
theorem audioOk_p1 : ¬AudioBad p1 := by unfold AudioBad; decide

theorem witness_validate_ok : ¬PiBad defaultParams p1 ∧ StationOk p1 ∧ ¬AudioBad p1 :=
  ⟨by unfold PiBad; decide, stationOk_p1, audioOk_p1⟩

theorem witness_commit_refused : validate State.reset.par State.reset.sh ≠ 0 := by decide
theorem witness_commit_in_idle : validate idleState.par idleState.sh = 0 ∧ idleState.pipe.stream = .idle := by decide
theorem witness_commit_while_streaming :
    validate (streamAt false false 0 1).par (streamAt false false 0 1).sh = 0 ∧
    (streamAt false false 0 1).pipe.stream = .streaming := by decide

theorem witness_start_refused_not_configured : State.reset.pipe.stream = .idle ∧ State.reset.flags.cfgValid = false := by decide
theorem witness_start_refused_length :
    (idleState.setCtl { Control.reset with bufLen := 4097 }).flags.cfgValid = true ∧
    4096 < (idleState.setCtl { Control.reset with bufLen := 4097 }).ctl.bufLen.toNat ∧
    (idleState.setCtl { Control.reset with bufLen := 0 }).ctl.bufLen.toNat = 0 := by decide
theorem witness_start_refused_rate :
    (idleState.setCtl { Control.reset with live := true, outRate := 44100 }).ctl.live = true ∧
    ∀ x, x ∈ (idleState.setCtl { Control.reset with live := true, outRate := 44100 }).par.rsBank →
      x.1 ≠ (idleState.setCtl { Control.reset with live := true, outRate := 44100 }).ctl.outRate := by
  refine ⟨rfl, fun x hx => ?_⟩
  have h : x = (48000#32, defaultEntry) := by simpa [idleState, idleWith, State.reset, defaultParams, State.setCtl, State.setFlags, State.setAc, State.setPe, State.setSh] using hx
  rw [h]; decide
theorem witness_start_busy : (streamAt true true 5 6).pipe.stream = .streaming := rfl

/-- A machine whose START passes its own checks in file mode, with the sink's answer listed. -/
def startFile (a : SinkAnswer) : State := withAnswers (idleState.setCtl { Control.reset with bufLen := 1 }) [] [a]

/-- The same in live mode. -/
def startLive (a : SinkAnswer) : State := withAnswers (idleState.setCtl { Control.reset with live := true, bufLen := 4096 }) [] [a]

theorem startPasses_file (a : SinkAnswer) : StartPasses (startFile a) :=
  ⟨rfl, rfl, show 1 ≤ (1#13).toNat ∧ (1#13).toNat ≤ 4096 by decide,
    fun h => absurd (show (false = true) from h) (by decide)⟩
theorem startPasses_live (a : SinkAnswer) : StartPasses (startLive a) :=
  ⟨rfl, rfl, show 1 ≤ (4096#13).toNat ∧ (4096#13).toNat ≤ 4096 by decide,
    fun _ => ⟨defaultEntry, List.mem_singleton.2 rfl⟩⟩

theorem witness_start_refused_by_the_sink :
    (StartPasses (startFile .unavailable) ∧
      ∃ u, sinkOpen 228000 (startFile .unavailable).ctl.live (startFile .unavailable) = (.unavailable, u)) ∧
    (StartPasses (startLive .unsupported) ∧
      ∃ u, sinkOpen (startLive .unsupported).ctl.outRate (startLive .unsupported).ctl.live (startLive .unsupported) =
        (.unsupported, u)) :=
  ⟨⟨startPasses_file _, _, rfl⟩, startPasses_live _, _, rfl⟩
theorem witness_start_begins :
    (StartPasses (startFile .ok) ∧ ∃ u, sinkOpen 228000 (startFile .ok).ctl.live (startFile .ok) = (.ok, u)) ∧
    (StartPasses (startLive .ok) ∧
      ∃ u, sinkOpen (startLive .ok).ctl.outRate (startLive .ok).ctl.live (startLive .ok) = (.ok, u)) :=
  ⟨⟨startPasses_file _, _, rfl⟩, startPasses_live _, _, rfl⟩

theorem witness_stop :
    idleState.pipe.stream = .idle ∧ (streamAt false false 0 1).pipe.bufPos = 0 ∧
    (streamAt false false 1 2).pipe.stream = .streaming ∧ (streamAt false false 1 2).pipe.bufPos ≠ 0 := by decide
theorem witness_stop_drains :
    (streamAt false true 4095 4096).pipe.stream = .streaming ∧ (streamAt false true 4095 4096).pipe.stopReq = true ∧
    (streamAt false true 4095 4096).pipe.bufPos.toNat < (streamAt false true 4095 4096).pipe.bufLenAct.toNat ∧
    (streamAt true true 1 4096).pipe.bufPos.toNat < (streamAt true true 1 4096).pipe.bufLenAct.toNat := by decide
theorem witness_resets : idleState.pipe.stream = .idle ∧ (streamAt true false 3 4).pipe.stream = .streaming := by decide

theorem witness_sticky :
    exec (.nop 0) (State.reset.setCtl { Control.reset with err := 0x41 }) =
      .next (State.reset.setCtl { Control.reset with err := 0x41 }) ∧
    (State.reset.setCtl { Control.reset with err := 0x41 }).ctl.err.getLsbD 0 = true ∧
    (State.reset.setCtl { Control.reset with err := 0x41 }).ctl.err.getLsbD 6 = true := ⟨rfl, by decide, by decide⟩
theorem witness_one_writer_each : exec (.wr 0x10 0x5555) idleState = .next (memWrite 0x10 0x5555 idleState) := rfl
theorem witness_active_adoption : exec (.commit 0) idleState = .next (commit idleState) := rfl

theorem witness_remainder : (0x3FF#26).toNat < 0x400 := by decide
theorem witness_legal_schedule : ¬SchedBad idleState.ac := by unfold SchedBad; decide
theorem witness_slot_rows :
    idleState.ac.station.schedLen.toNat ≠ 0 ∧ idleState.ac.station.ctValid = false ∧
    (idleState.setAc (bad fun s => { s with ctValid := true })).ac.station.ctValid = true := by decide
theorem witness_af_list :
    ¬AfCountBad (bad fun s => { s with afCount := 25, af := Vector.replicate 25 1079 }) ∧
    ¬AfBad (bad fun s => { s with afCount := 25, af := Vector.replicate 25 1079 }) ∧ ¬AfCountBad p1 ∧ ¬AfBad p1 := by
  unfold AfCountBad AfBad; decide
theorem witness_bit_row :
    idleState.modu.bitIdx = 0 ∧ (idleState.setModu { Modulator.reset with bitIdx := 103 }).modu.bitIdx ≠ 0 := by decide

/-- The default SHAPE_H conforms (42_subcarrier_modulator.md R222, R223). -/
theorem shapeOk_default : ShapeOk defaultShapeH := ⟨by decide +kernel, by decide +kernel, by decide +kernel⟩

/-- The default bank entry conforms (45_rate_converter.md R301). -/
theorem entryOk_default : EntryOk 48000#32 defaultEntry :=
  ⟨by decide, by decide, by decide, by decide, by decide +kernel, by decide⟩

/-- The default instantiation conforms (00_scope.md R8). -/
theorem paramsOk_default : ParamsOk defaultParams :=
  ⟨by decide, shapeOk_default, fun x hx => by
    have h : x = (48000#32, defaultEntry) := by simpa [defaultParams] using hx
    rw [h]; exact entryOk_default⟩

theorem witness_subcarrier : ShapeOk idleState.par.shapeH ∧ idleState.modu.phase.val % 2 = 0 := ⟨shapeOk_default, rfl⟩
theorem witness_tick_row :
    idleState.pipe.stream = .idle ∧
    (withAnswers (streamAt false false 0 192) [none] []).pipe.stream = .streaming ∧
    (withAnswers (streamAt false false 0 192) [none] []).modu.bitPh = 0 ∧
    (drawAudio (withAnswers (streamAt false false 0 192) [none] [])).1 = none ∧
    ((streamAt true false 0 192).setModu { Modulator.reset with bitIdx := 1, bitPh := 191 }).pipe.stream = .streaming ∧
    ((streamAt true false 0 192).setModu { Modulator.reset with bitIdx := 1, bitPh := 191 }).modu.bitPh ≠ 0 := by decide
theorem witness_in_step :
    (InStep State.reset ∧ State.reset.cnt.tick.toNat + 1 < 2 ^ 64 ∧ exec .tick State.reset = .next State.reset) ∧
    InStep (streamAt false false 0 192) ∧ (streamAt false false 0 192).cnt.tick.toNat + 1 < 2 ^ 64 ∧
    (streamAt false false 0 192).pipe.stream = .streaming ∧
    exec .tick (streamAt false false 0 192) = .next (sampleRow tick (streamAt false false 0 192)) :=
  ⟨⟨⟨rfl, rfl, rfl, rfl⟩, by decide, execTick_idle rfl⟩, ⟨rfl, rfl, rfl, rfl⟩, by decide, rfl, execTick_streaming rfl⟩
/-- Its next step is a take, listed by the sink. -/
def takeListed : State := (streamAt false false 0 192).setWorld { World.reset with script := [.sinkTake] }

theorem witness_hardware_steps :
    takeListed.world.row = none ∧ takeListed.pipe.stream = .streaming ∧
    step takeListed = exec .sinkTake (takeRequest takeListed).2 ∧
    step (takeListed.setWorld { World.reset with script := [.sinkFail] }) =
      .next (sinkFail (takeRequest (takeListed.setWorld { World.reset with script := [.sinkFail] })).2) := ⟨rfl, rfl, rfl, rfl⟩
theorem witness_chain :
    ¬AudioBad p1 ∧ ({ Conditioning.reset with env := 8388608 } : Conditioning).env.toNat ≤ 8388608 :=
  ⟨audioOk_p1, by decide⟩
theorem witness_separation_zero : ({ Audio.reset with sep := 0 } : Audio).sep = 0 := rfl
theorem witness_headroom :
    ParamsOk (streamAt false false 0 192).par ∧ ¬AudioBad (streamAt false false 0 192).ac ∧
    ¬AudioBad (streamAt false false 0 192).pe ∧
    exec .tick (streamAt false false 0 192) = .next (sampleRow tick (streamAt false false 0 192)) :=
  ⟨paramsOk_default, audioOk_p1, audioOk_p1, execTick_streaming rfl⟩
theorem witness_rs_out_row :
    idleState.pipe.stream = .idle ∧ (streamAt false false 0 192).pipe.liveAct = false ∧
    (streamAt true false 0 192).pipe.stream = .streaming ∧ (streamAt true false 0 192).pipe.liveAct = true := by decide
theorem witness_rs_input :
    (streamAt true false 0 192).pipe.stream = .streaming ∧
    (streamAt true false 0 192).conv.entry.l.val ≤ (streamAt true false 0 192).conv.pos.toNat := by decide
theorem witness_take_in_idle : State.reset.pipe.stream = .idle := rfl
theorem witness_take_delivers :
    ((streamAt false false 0 2).pipe.stream = .streaming ∧ (streamAt false false 0 2).pipe.liveAct = false ∧
      (streamAt false false 0 2).pipe.bufPos + 1 ≠ (streamAt false false 0 2).pipe.bufLenAct) ∧
    (streamAt true false 0 2).pipe.stream = .streaming ∧ (streamAt true false 0 2).pipe.liveAct = true ∧
      (streamAt true false 0 2).pipe.bufPos + 1 ≠ (streamAt true false 0 2).pipe.bufLenAct := by decide
theorem witness_take_completes :
    ((streamAt false true 4095 4096).pipe.stream = .streaming ∧ (streamAt false true 4095 4096).pipe.stopReq = true ∧
      (streamAt false true 4095 4096).pipe.bufPos + 1 = (streamAt false true 4095 4096).pipe.bufLenAct) ∧
    (streamAt true false 0 1).pipe.stream = .streaming ∧ (streamAt true false 0 1).pipe.stopReq = false ∧
      (streamAt true false 0 1).pipe.bufPos + 1 = (streamAt true false 0 1).pipe.bufLenAct := by decide
theorem witness_sink_fail : idleState.pipe.stream = .idle ∧ (streamAt false false 1 2).pipe.stream = .streaming := by decide
theorem witness_output_word : (-8388608 : Int) ≠ 0 ∧ (-8388608 : Int) ≤ 8388607 ∧ (1 : Int) ≠ 0 := by decide
/-- A second machine in IDLE, with another old stream, shadow copy and ERR. -/
def startFile2 : State :=
  ((((startFile .ok).setCur ⟨3, 1, 2, 0⟩).setSh Settings.reset).setCtl { (startFile .ok).ctl with err := 0x21 }).setCnt ⟨7, 99⟩

theorem witness_restart :
    (startFile .ok).pipe.stream = .idle ∧ startFile2.pipe.stream = .idle ∧ (startFile .ok).flags = startFile2.flags ∧
    (startFile .ok).flags.pendRds = false ∧ (startFile .ok).flags.pendAud = false ∧ (startFile .ok).ac = startFile2.ac ∧
    (startFile .ok).par = startFile2.par ∧ (startFile .ok).world = startFile2.world ∧
    (startFile .ok).ctl.live = startFile2.ctl.live ∧ (startFile .ok).ctl.outRate = startFile2.ctl.outRate ∧
    (startFile .ok).ctl.bufLen = startFile2.ctl.bufLen ∧ exec (.start 0) (startFile .ok) = .next (start (startFile .ok)) ∧
    exec (.start 0) startFile2 = .next (start startFile2) ∧ (start (startFile .ok)).pipe.stream = .streaming :=
  ⟨rfl, rfl, rfl, rfl, rfl, rfl, rfl, rfl, rfl, rfl, rfl, rfl, rfl, by decide⟩

/-- A stream of P1 meets the invariant, and its next step is a take. -/
theorem witness_invariant_step :
    Invariant (placeRow (.event .sinkTake) (streamAt false true 1 2)) ∧
    ∃ t, step (placeRow (.event .sinkTake) (streamAt false true 1 2)) = .next t := by
  refine ⟨⟨paramsOk_default, ⟨stationOk_p1, audioOk_p1⟩, ⟨stationOk_p1, audioOk_p1⟩, fun _ => ?_, fun h => ?_, fun _ => ⟨rfl, by decide⟩,
    by decide, ⟨_, entryOk_default⟩, by decide, by decide, rfl, by decide⟩, ⟨_, rfl⟩⟩
  · exact ⟨witness_validate_ok.1, witness_validate_ok.1⟩
  · exact absurd (show StreamState.streaming = .idle from h) (by decide)

end Sys2Proof.Machine.Tests
end

/-! ### The order of a step (00_scope.md R16) -/

namespace Sys2Proof.Machine

/-- A row put before the machine is taken first (log 2). -/
theorem takeRequest_of_row {s : State} {r : Request} (h : s.world.row = some r) :
    takeRequest s = (r, (s.setWorld { s.world with row := none }).setOut Outputs.quiet) := by
  unfold takeRequest; rw [h]

/-- With no row there the script's first step is taken (log 1). -/
theorem takeRequest_of_script {s : State} {a : AgentStep} {rest : List AgentStep} (hr : s.world.row = none)
    (hs : s.world.script = a :: rest) :
    takeRequest s = (requestOfAgent a, (s.setWorld { s.world with script := rest }).setOut Outputs.quiet) := by
  unfold takeRequest; rw [hr, hs]

/-- With nothing listed the environment's free step is taken (log 1). -/
theorem takeRequest_of_free {s : State} (hr : s.world.row = none) (hs : s.world.script = []) :
    takeRequest s = (requestOfAgent (Config.agentStep s.world.draws), (bumpDraws s).setOut Outputs.quiet) := by
  unfold takeRequest; rw [hr, hs]

/-- A step whose request decodes runs the instruction on the state with the request taken. -/
theorem step_of_takeRequest {s u : State} {r : Request} {i : Instr} (ht : takeRequest s = (r, u))
    (hd : decode r = some i) : step s = exec i u := by
  simp only [step, ht, hd]

/-- A step that answers a next state runs an instruction on the state with the request taken. -/
theorem exists_exec_of_step {s t : State} (h : step s = .next t) : ∃ i, exec i (takeRequest s).2 = .next t := by
  unfold step at h
  cases hd : decode (takeRequest s).1 with
  | none => simp [hd] at h
  | some i => exact ⟨i, by simpa [hd] using h⟩

/-- The bus carries RD and WR and nothing else (30_encoding.md R101). -/
theorem decodeBus_cases (w : BitVec 42) : (∃ a d, decodeBus w = .rd a d) ∨ ∃ a d, decodeBus w = .wr a d := by
  unfold decodeBus
  split
  · exact .inr ⟨_, _, rfl⟩
  · exact .inl ⟨_, _, rfl⟩

/-- Every agent's step decodes, to an instruction of one of the four kinds of 00_scope.md R16. -/
theorem decode_requestOfAgent (a : AgentStep) : ∃ i, decode (requestOfAgent a) = some i ∧
    (i = .sinkTake ∨ i = .sinkFail ∨ i = .hwReset ∨ (∃ a d, i = .rd a d) ∨ (∃ a d, i = .wr a d)) := by
  cases a with
  | host w => exact ⟨decodeBus w, rfl, .inr (.inr (.inr (decodeBus_cases w)))⟩
  | sinkTake => exact ⟨.sinkTake, rfl, .inl rfl⟩
  | sinkFail => exact ⟨.sinkFail, rfl, .inr (.inl rfl)⟩
  | hwReset => exact ⟨.hwReset, rfl, .inr (.inr (.inl rfl))⟩

/-- Settles O3: what is taken is by cases on `row` and the script, and it is run as decoded. -/
theorem stepRunsTheDecodedInstruction : Obligations.StepRunsTheDecodedInstruction := by
  unfold Obligations.StepRunsTheDecodedInstruction
  intro s
  constructor
  · intro a rest i hrow hscript hdecode
    exact step_of_takeRequest (takeRequest_of_script hrow hscript) hdecode
  · intro r i hrow hdecode
    exact step_of_takeRequest (takeRequest_of_row hrow) hdecode

/-- Settles O4: a free step is an agent's step like any listed one, so it decodes and runs. -/
theorem stepOfTheFreeEnvironment : Obligations.StepOfTheFreeEnvironment := by
  unfold Obligations.StepOfTheFreeEnvironment
  refine ⟨fun s hrow hscript => ?_, decode_requestOfAgent⟩
  obtain ⟨i, hdecode, -⟩ := decode_requestOfAgent (Config.agentStep s.world.draws)
  exact ⟨i, hdecode, step_of_takeRequest (takeRequest_of_free hrow hscript) hdecode⟩

end Sys2Proof.Machine

/-! ### The arithmetic primitives (00_scope.md R14) -/

namespace Sys2Proof.Machine

/-- sat24 clamps to the S24 range. -/
theorem sat24_eq_max_min (v : Int) : sat24 v = max (-8388608) (min 8388607 v) := by
  unfold sat24
  split
  · omega
  · split <;> omega

/-- mulq15t is the sign of the product times its magnitude divided by 2^15 and rounded down. -/
theorem mulq15t_eq_sign_mul (a c : Int) : mulq15t a c = Int.sign (a * c) * ((a * c).natAbs / 32768 : Nat) := by
  unfold mulq15t
  rcases lt_trichotomy (a * c) 0 with h | h | h
  · rw [if_neg (by omega), Int.sign_eq_neg_one_of_neg h]; omega
  · simp [h]
  · rw [if_pos h.le, Int.sign_eq_one_of_pos h]; omega

/-- The coefficient 1.0 leaves every value as it is. -/
theorem mulq15t_one (a : Int) : mulq15t a 32768 = a := by
  unfold mulq15t
  split <;> omega

/-- Settles O44: each primitive by its own law; the divisors are positive, so `/` is the floor. -/
theorem arithmeticPrimitives : Obligations.ArithmeticPrimitives := by
  unfold Obligations.ArithmeticPrimitives
  refine ⟨sat24_eq_max_min, mulq15t_eq_sign_mul, fun d k => ?_, fun v => ?_,
    fun a => ⟨mulq15t_one a, mulq15t_zero_right a⟩, mulq15t_natAbs_mul_le⟩
  · exact (Int.fdiv_eq_ediv_of_nonneg _ (by decide)).symm
  · exact (Int.fdiv_eq_ediv_of_nonneg _ (by decide)).symm

end Sys2Proof.Machine

/-! ### What the invariant speaks of, part by part -/

namespace Sys2Proof.Machine

/-- The part of the invariant about the parameters and the configuration copies (20_memory.md R80 to R84). -/
structure CopiesOk (s : State) : Prop where
  params : ParamsOk s.par
  pending : StationOk s.pe ∧ ¬AudioBad s.pe
  active : StationOk s.ac ∧ ¬AudioBad s.ac
  committed : s.flags.cfgValid = true → ¬PiBad s.par s.pe ∧ ¬PiBad s.par s.ac

/-- The part about STATE, the flags that wait on it and the buffer in flight (10_state.md R50, 20_memory.md R84). -/
structure PipelineOk (p : Pipeline) (f : CommitFlags) : Prop where
  idle : p.stream = .idle → f.pendRds = false ∧ f.pendAud = false ∧ p.stopReq = false
  streaming : p.stream = .streaming → f.cfgValid = true ∧ p.bufPos.toNat < p.bufLenAct.toNat
  bufLen : 1 ≤ p.bufLenAct.toNat ∧ p.bufLenAct.toNat ≤ 4096

/-- The part about the signal path: gains, carrier and CLIP (10_state.md R48, 42_subcarrier_modulator.md R210, 44_multiplex_composer.md
R283). -/
structure SignalOk (s : State) : Prop where
  gains : s.cond.env.toNat ≤ 8388608 ∧ s.cond.gc.toNat ≤ 32768 ∧ s.cond.lg.toNat ≤ 32768
  phase : s.modu.bitPh.val % 12 = s.modu.phase.val
  noClip : s.ctl.err.getLsbD 6 = false

/-- The invariant but for the rate converter: what holds also between two inputs of one rs_out, where RS_POS is below its range
(45_rate_converter.md R303, R304). -/
structure EngineOk (s : State) : Prop where
  copies : CopiesOk s
  pipeline : PipelineOk s.pipe s.flags
  signal : SignalOk s

/-- The part about the rate converter between calls (45_rate_converter.md R303). -/
structure ConverterOk (c : Converter) : Prop where
  entry : ∃ rate, EntryOk rate c.entry
  position : c.entry.l.val ≤ c.pos.toNat ∧ c.pos.toNat < c.entry.l.val + c.entry.m

theorem invariant_iff (s : State) : Invariant s ↔ EngineOk s ∧ ConverterOk s.conv :=
  ⟨fun h => ⟨⟨⟨h.params, h.pending, h.active, h.committed⟩, ⟨h.idle, h.streaming, h.bufLen⟩, ⟨h.gains, h.phase, h.noClip⟩⟩,
      ⟨h.entry, h.position⟩⟩,
    fun ⟨⟨hc, hp, hs⟩, hv⟩ => ⟨hc.params, hc.pending, hc.active, hc.committed, hp.idle, hp.streaming, hp.bufLen, hv.entry,
      hv.position, hs.gains, hs.phase, hs.noClip⟩⟩

theorem Invariant.engineOk {s : State} (h : Invariant s) : EngineOk s := ((invariant_iff s).1 h).1

theorem Invariant.converterOk {s : State} (h : Invariant s) : ConverterOk s.conv := ((invariant_iff s).1 h).2

/-! ### Operations that adopt and otherwise leave the copies alone -/

/-- From `s` to `t` the copies change by adoption at most: a half of AC is as it was or PE's, and no pending flag rises
(20_memory.md R82, R83). -/
structure Adopts (s t : State) : Prop where
  par : t.par = s.par
  pe : t.pe = s.pe
  station : t.ac.station = s.ac.station ∨ t.ac.station = s.pe.station
  audio : t.ac.audio = s.ac.audio ∨ t.ac.audio = s.pe.audio
  cfgValid : t.flags.cfgValid = s.flags.cfgValid
  pendRds : s.flags.pendRds = false → t.flags.pendRds = false
  pendAud : s.flags.pendAud = false → t.flags.pendAud = false

theorem Adopts.of_eq {s t : State} (par : t.par = s.par := by simp) (pe : t.pe = s.pe := by simp)
    (ac : t.ac = s.ac := by simp) (flags : t.flags = s.flags := by simp) : Adopts s t := by
  refine ⟨par, pe, .inl (by rw [ac]), .inl (by rw [ac]), by rw [flags], ?_, ?_⟩ <;> rw [flags] <;> exact id

theorem Adopts.trans {s t u : State} (h : Adopts s t) (k : Adopts t u) : Adopts s u where
  par := k.par.trans h.par
  pe := k.pe.trans h.pe
  station := by
    rcases k.station with e | e
    · rw [e]; exact h.station
    · exact .inr (by rw [e, h.pe])
  audio := by
    rcases k.audio with e | e
    · rw [e]; exact h.audio
    · exact .inr (by rw [e, h.pe])
  cfgValid := k.cfgValid.trans h.cfgValid
  pendRds := k.pendRds ∘ h.pendRds
  pendAud := k.pendAud ∘ h.pendAud

theorem adoptStation_adopts (s : State) : Adopts s (adoptStation s) := by
  rcases adoptStation_cases s with ⟨-, h⟩ | ⟨-, h⟩ <;> rw [h]
  · exact .of_eq
  · exact ⟨rfl, rfl, .inr rfl, .inl rfl, rfl, fun _ => rfl, id⟩

theorem adoptAudio_adopts (s : State) : Adopts s (adoptAudio s) := by
  rcases adoptAudio_cases s with ⟨-, h⟩ | ⟨-, h⟩ <;> rw [h]
  · exact .of_eq
  · exact ⟨rfl, rfl, .inl rfl, .inr rfl, rfl, id, fun _ => rfl⟩

theorem teardown_adopts (s : State) : Adopts s (teardown s) := by
  have hidle : Adopts s (pulseRelease (s.setPipe { s.pipe with stream := .idle, stopReq := false })) := .of_eq
  exact hidle.trans ((adoptStation_adopts _).trans (adoptAudio_adopts _))

theorem groupBoundary_adopts (s : State) : Adopts s (groupBoundary s) := by
  unfold groupBoundary
  exact (adoptStation_adopts s).trans .of_eq

theorem bitStep_adopts (s : State) : Adopts s (bitStep s) := by
  rw [bitStep_eq]
  split
  · exact (groupBoundary_adopts s).trans .of_eq
  · exact .of_eq

theorem modulatorStep_adopts (s : State) : Adopts s (modulatorStep s) := by
  unfold modulatorStep
  split
  · exact bitStep_adopts s
  · exact .of_eq

theorem tickFront_adopts (s : State) : Adopts s (tickFront s) := (adoptAudio_adopts s).trans (modulatorStep_adopts _)

theorem tick_adopts (s : State) : Adopts s (tick s).2 := by
  obtain ⟨-, hac, hflags, -⟩ := tick_parts s
  exact (tickFront_adopts s).trans (.of_eq (by simp) (by simp) hac hflags)

/-- Adoption moves legal halves only, since both copies are legal, so the copies stay legal. -/
theorem CopiesOk.of_adopts {s t : State} (h : CopiesOk s) (ha : Adopts s t) : CopiesOk t where
  params := by rw [ha.par]; exact h.params
  pending := by rw [ha.pe]; exact h.pending
  active := by
    obtain ⟨⟨hps, hpa⟩, has, haa⟩ := And.intro h.pending h.active
    simp only [StationOk, TextBad, AfCountBad, AfBad, SchedBad, CtBad, AudioBad] at hps hpa has haa ⊢
    constructor
    · rcases ha.station with e | e <;> rw [e] <;> assumption
    · rcases ha.audio with e | e <;> rw [e] <;> assumption
  committed := by
    intro hv
    rw [ha.cfgValid] at hv
    obtain ⟨hp, hac⟩ := h.committed hv
    rw [ha.par, ha.pe]
    refine ⟨hp, ?_⟩
    simp only [PiBad] at hp hac ⊢
    rcases ha.station with e | e <;> rw [e] <;> assumption

theorem PipelineOk.of_adopts {s t : State} (h : PipelineOk s.pipe s.flags) (ha : Adopts s t) (hp : t.pipe = s.pipe) :
    PipelineOk t.pipe t.flags := by
  rw [hp]
  refine ⟨fun hi => ?_, fun hs => ?_, h.bufLen⟩
  · obtain ⟨hr, hu, hq⟩ := h.idle hi
    exact ⟨ha.pendRds hr, ha.pendAud hu, hq⟩
  · rw [ha.cfgValid]; exact h.streaming hs

/-! ### Operations that leave alone what the invariant reads, but for adoption -/

/-- `t` has all that the invariant reads as it is in `s`, but for adoption. -/
structure Untouched (s t : State) : Prop where
  adopts : Adopts s t
  pipe : t.pipe = s.pipe
  conv : t.conv = s.conv
  cond : t.cond = s.cond
  counters : t.modu.bitPh = s.modu.bitPh ∧ t.modu.phase = s.modu.phase
  clip : s.ctl.err.getLsbD 6 = false → t.ctl.err.getLsbD 6 = false

theorem Untouched.of_eq {s t : State} (par : t.par = s.par := by simp) (pe : t.pe = s.pe := by simp)
    (ac : t.ac = s.ac := by simp) (flags : t.flags = s.flags := by simp) (pipe : t.pipe = s.pipe := by simp)
    (conv : t.conv = s.conv := by simp) (cond : t.cond = s.cond := by simp) (modu : t.modu = s.modu := by simp)
    (clip : s.ctl.err.getLsbD 6 = false → t.ctl.err.getLsbD 6 = false := by simp) : Untouched s t :=
  ⟨.of_eq par pe ac flags, pipe, conv, cond, by rw [modu]; exact ⟨rfl, rfl⟩, clip⟩

theorem SignalOk.of_untouched {s t : State} (h : SignalOk s) (hf : Untouched s t) : SignalOk t where
  gains := by rw [hf.cond]; exact h.gains
  phase := by rw [hf.counters.1, hf.counters.2]; exact h.phase
  noClip := hf.clip h.noClip

theorem Invariant.of_untouched {s t : State} (h : Invariant s) (hf : Untouched s t) : Invariant t := by
  have he := h.engineOk
  refine (invariant_iff t).2 ⟨⟨he.copies.of_adopts hf.adopts, he.pipeline.of_adopts hf.adopts hf.pipe, he.signal.of_untouched hf⟩, ?_⟩
  rw [hf.conv]
  exact h.converterOk

/-- New copies, flags and pipeline that fit each other keep the invariant when the rest of what it reads stays. -/
theorem Invariant.of_copies {s t : State} (h : Invariant s) (hc : CopiesOk t) (hp : PipelineOk t.pipe t.flags)
    (conv : t.conv = s.conv := by simp) (cond : t.cond = s.cond := by simp) (modu : t.modu = s.modu := by simp)
    (ctl : t.ctl = s.ctl := by simp) : Invariant t := by
  refine (invariant_iff t).2 ⟨⟨hc, hp, ?_, ?_, ?_⟩, ?_⟩
  · rw [cond]; exact h.gains
  · rw [modu]; exact h.phase
  · rw [ctl]; exact h.noClip
  · rw [conv]; exact h.converterOk

/-- A change of the pipeline keeps the invariant when the new one fits the flags. -/
theorem Invariant.setPipe {s : State} (h : Invariant s) {p : Pipeline} (hp : PipelineOk p s.flags) : Invariant (s.setPipe p) :=
  h.of_copies (h.engineOk.copies.of_adopts .of_eq) hp

/-- Teardown keeps the invariant: what waited is adopted, and nothing waits in IDLE (46_delivery_pipeline.md R341). -/
theorem Invariant.of_teardown {s : State} (h : Invariant s) : Invariant (teardown s) := by
  refine h.of_copies (h.engineOk.copies.of_adopts (teardown_adopts s)) ?_
  rw [teardown_pipe]
  obtain ⟨hr, ha⟩ := teardown_pending s
  exact ⟨fun _ => ⟨hr, ha, rfl⟩, nofun, h.bufLen⟩

/-- No error class is CLIP (60_exceptions.md R361). -/
theorem raise_untouched (c : ErrorClass) (code : BitVec 8) (s : State) : Untouched s (raise c code s) where
  adopts := .of_eq
  pipe := rfl
  conv := rfl
  cond := rfl
  counters := ⟨rfl, rfl⟩
  clip h := by
    have hbit : 6 ≠ errBit c := by have := errBit_lt c; omega
    rw [raise_eq, State.setCtl_ctl, errWith_getLsbD _ (by decide), h, decide_eq_false hbit, Bool.or_false]

/-- A write of ERR clears flags and sets none (20_memory.md R76). -/
theorem clearErr_untouched (v : Word) (s : State) : Untouched s (clearErr v s) where
  adopts := .of_eq
  pipe := rfl
  conv := rfl
  cond := rfl
  counters := ⟨rfl, rfl⟩
  clip h := by rw [clearErr, State.setCtl_ctl, BitVec.getLsbD_and, h, Bool.false_and]

theorem sinkOpen_untouched (rate : Word) (live : Bool) (s : State) : Untouched s (sinkOpen rate live s).2 := .of_eq

theorem bitStep_untouched (s : State) : Untouched s (bitStep s) where
  adopts := bitStep_adopts s
  pipe := bitStep_pipe s
  conv := bitStep_conv s
  cond := bitStep_cond s
  counters := by
    rw [bitStep_eq]
    split <;> simp [shiftBit, groupBoundary]
  clip := by simp

theorem modulatorStep_untouched (s : State) : Untouched s (modulatorStep s) := by
  unfold modulatorStep
  split
  · exact bitStep_untouched s
  · exact .of_eq

theorem takeRequest_untouched (s : State) : Untouched s (takeRequest s).2 := by
  rw [takeRequest_snd]
  exact .of_eq

end Sys2Proof.Machine

/-! ### The ranges of the signal path (43_audio_conditioning.md R246 to R251, 44_multiplex_composer.md R283) -/

namespace Sys2Proof.Machine

/-- The upper ends of a legal audio half's ranges, as the chain reads its registers (40_host_operations.md R143, order 7). -/
structure AudioRange (a : Audio) : Prop where
  gain : regInt a.gain ≤ 32768
  rdsLevel : regInt a.rdsLevel ≤ 3276
  slope : regInt a.compSlope ≤ 32768
  att : regInt a.compAtt ≤ 32768
  rel : regInt a.compRel ≤ 32768
  ceil : regInt a.limCeil ≤ 8388607

theorem audioRange_of_not_audioBad {c : Settings} (h : ¬AudioBad c) : AudioRange c.audio := by
  unfold AudioBad at h
  constructor <;> unfold regInt <;> omega

/-- Two values that share a limiter gain of at most `need` for their magnitudes' sum stay under the ceiling together (R249). -/
theorem limited_natAbs_add_le {x y lg ceil : Int} (h0 : 0 ≤ lg) (hc : 0 ≤ ceil)
    (hn : lg ≤ limiterNeed (x.natAbs + y.natAbs) ceil) :
    ((mulq15t x lg).natAbs + (mulq15t y lg).natAbs : Nat) ≤ ceil := by
  have hx := mulq15t_natAbs_mul_le x lg
  have hy := mulq15t_natAbs_mul_le y lg
  have hxy : ((x.natAbs + y.natAbs : Nat) : Int) * lg ≤ ceil * 32768 :=
    (mul_le_mul_of_nonneg_left hn (by omega)).trans (limiterNeed_mul_le hc)
  lift lg to Nat using h0
  lift ceil to Nat using hc
  rw [Int.natAbs_natCast] at hx hy
  norm_cast at hxy ⊢
  rw [Nat.add_mul] at hxy
  omega

/-- M after the matrix is in the S24 range (R242, R244). -/
theorem condition_m_natAbs_le (a : Audio) (c : Conditioning) (f : Frame) : (condition a c f).m.natAbs ≤ 8388608 :=
  (matrix_range (sat24_range _) (sat24_range _)).1

theorem condition_env (a : Audio) (c : Conditioning) (f : Frame) : (condition a c f).next.env =
    toReg 24 (envelopeNext (condition a c f).m.natAbs (regInt c.env) (regInt a.compAtt) (regInt a.compRel)) := rfl

theorem condition_gc (a : Audio) (c : Conditioning) (f : Frame) : (condition a c f).next.gc =
    toReg 16 (compressorGain (regInt (condition a c f).next.env) (regInt a.compThr) (regInt a.compSlope)) := rfl

/-- The end of the chain: the two compressed channels, the limiter's gain for their sum, and the output gain (R249, R251). -/
theorem condition_limited (a : Audio) (c : Conditioning) (f : Frame) : ∃ mc sc lg : Int,
    lg = limiterGain (mc.natAbs + sc.natAbs) (regInt a.limCeil) (regInt c.lg) (regInt a.limRel) ∧
    (condition a c f).next.lg = toReg 16 lg ∧ (condition a c f).mf = mulq15t (mulq15t mc lg) (regInt a.gain) ∧
    (condition a c f).sf = mulq15t (mulq15t sc lg) (regInt a.gain) := ⟨_, _, _, rfl, rfl, rfl, rfl⟩

/-- ENV, GC and LG after a frame are in their ranges (R246, R247, R249). -/
theorem condition_next_range {a : Audio} (ha : AudioRange a) {c : Conditioning} (hc : c.env.toNat ≤ 8388608) (f : Frame) :
    (condition a c f).next.env.toNat ≤ 8388608 ∧ (condition a c f).next.gc.toNat ≤ 32768 ∧
      (condition a c f).next.lg.toNat ≤ 32768 := by
  refine ⟨?_, ?_, ?_⟩
  · have hm := condition_m_natAbs_le a c f
    have := @envelopeNext_range (condition a c f).m.natAbs _ _ _ (by omega) ⟨regInt_nonneg c.env, by unfold regInt; omega⟩
      ⟨regInt_nonneg a.compAtt, ha.att⟩ ⟨regInt_nonneg a.compRel, ha.rel⟩
    rw [condition_env, toReg_toNat (by omega) (by omega)]
    omega
  · have := @compressorGain_range (regInt (condition a c f).next.env) _ _ (regInt_nonneg a.compThr)
      ⟨regInt_nonneg a.compSlope, ha.slope⟩
    rw [condition_gc, toReg_toNat (by omega) (by omega)]
    omega
  · obtain ⟨mc, sc, lg, hlg, hnext, -⟩ := condition_limited a c f
    have := @limiterGain_range (mc.natAbs + sc.natAbs) _ _ _ (regInt_nonneg a.limCeil) (regInt_nonneg c.lg)
      (regInt_nonneg a.limRel)
    rw [hnext, toReg_toNat (by omega) (by omega)]
    omega

/-- The limiter is a brick wall: the two channels handed to the composer sum to LIM_CEIL at most (R249, R251). -/
theorem condition_natAbs_add_le {a : Audio} (ha : AudioRange a) (c : Conditioning) (f : Frame) :
    ((condition a c f).mf.natAbs + (condition a c f).sf.natAbs : Nat) ≤ regInt a.limCeil := by
  obtain ⟨mc, sc, lg, hlg, -, hmf, hsf⟩ := condition_limited a c f
  obtain ⟨h0, -, hneed⟩ := @limiterGain_range (mc.natAbs + sc.natAbs) _ _ _ (regInt_nonneg a.limCeil) (regInt_nonneg c.lg)
    (regInt_nonneg a.limRel)
  rw [← hlg] at h0 hneed
  have hwall := limited_natAbs_add_le h0 (regInt_nonneg a.limCeil) hneed
  have hg : (regInt a.gain).natAbs ≤ 32768 := by have := regInt_nonneg a.gain; have := ha.gain; omega
  have hm := mulq15t_natAbs_le (mulq15t mc lg) hg
  have hs := mulq15t_natAbs_le (mulq15t sc lg) hg
  rw [hmf, hsf]
  omega

/-- The symbol signs are at most 1 in magnitude (10_state.md R46). -/
theorem Sign.natAbs_toInt_le (x : Sign) : x.toInt.natAbs ≤ 1 := by cases x <;> decide

/-- The shaped sum is under the overlap bound OVL(BITPH) (42_subcarrier_modulator.md R222, R224). -/
theorem shapedSum_natAbs_le (h : List (BitVec 16)) (m : Modulator) : (shapedSum h m).natAbs ≤ overlap h m.bitPh.val := by
  have term (x : Sign) (w : Int) : (x.toInt * w).natAbs ≤ w.natAbs := by
    rw [Int.natAbs_mul]; exact (Nat.mul_le_mul_right _ x.natAbs_toInt_le).trans (Nat.one_mul _).le
  unfold shapedSum overlap
  exact (Int.natAbs_add_le _ _).trans (add_le_add ((Int.natAbs_add_le _ _).trans (add_le_add (term _ _) (term _ _))) (term _ _))

theorem c57_natAbs_le : ∀ p : Fin 12, (c57 p).natAbs ≤ 1 := by decide

theorem t12_natAbs_le : ∀ p : Fin 12, (t12 p).natAbs ≤ 32767 := by decide

/-- With a conforming SHAPE_H the subcarrier sample is at most 32767 in magnitude (42_subcarrier_modulator.md R222, R225). -/
theorem rdsSample_natAbs_le {s : State} (h : ShapeOk s.par.shapeH) : (rdsSample s).natAbs ≤ 32767 := by
  have hsum := (shapedSum_natAbs_le s.par.shapeH s.modu).trans (h.bounded _ s.modu.bitPh.isLt)
  unfold rdsSample
  rw [Int.natAbs_mul]
  exact (Nat.mul_le_mul (c57_natAbs_le _) hsum).trans (by decide)

/-- The headroom of R283: limited channels, a legal RDS level and a bounded subcarrier keep the sum inside 8304436. -/
theorem contributions_sum_natAbs_le {p : Fin 12} {lvl : Coef} {mf sf rds : Int} (hms : mf.natAbs + sf.natAbs ≤ 8388607)
    (hlvl : regInt lvl ≤ 3276) (hrds : rds.natAbs ≤ 32767) : (contributions p lvl mf sf rds).sum.natAbs ≤ 8304436 := by
  have hmono : (contributions p lvl mf sf rds).mono.natAbs = mf.natAbs * 26214 / 32768 := mulq15t_natAbs _ _
  have hcarrier : (mulq15t sf (sub38 p)).natAbs ≤ sf.natAbs := mulq15t_natAbs_le _ ((t12_natAbs_le _).trans (by decide))
  have hstereo : (contributions p lvl mf sf rds).stereo.natAbs = (mulq15t sf (sub38 p)).natAbs * 26214 / 32768 :=
    mulq15t_natAbs _ _
  have hpilot : (contributions p lvl mf sf rds).pilot.natAbs = (t12 p * 256).natAbs * 2949 / 32768 := mulq15t_natAbs _ _
  have hsub : (contributions p lvl mf sf rds).rds.natAbs * 32768 ≤ (32767 * 256) * 3276 :=
    (mulq15t_natAbs_mul_le _ _).trans (Nat.mul_le_mul (by omega) (by have := regInt_nonneg lvl; omega))
  have ht := t12_natAbs_le p
  unfold Contributions.sum
  omega

/-! ### The tick keeps the engine's part of the invariant -/

theorem tickFront_counters (s : State) :
    (tickFront s).modu.bitPh = s.modu.bitPh ∧ (tickFront s).modu.phase = s.modu.phase := by
  simpa [tickFront] using (modulatorStep_untouched (adoptAudio s)).counters

/-- The audio half a tick works with is legal, adopted in this tick or not. -/
theorem tickFront_audioRange {s : State} (h : CopiesOk s) : AudioRange (tickFront s).ac.audio :=
  audioRange_of_not_audioBad (h.of_adopts (tickFront_adopts s)).active.2

/-- No sum of a tick saturates (44_multiplex_composer.md R283). -/
theorem tickParts_sum_natAbs_le {s : State} (h : CopiesOk s) : (tickParts s).sum.natAbs ≤ 8304436 := by
  have ha := tickFront_audioRange h
  have hceil := ha.ceil
  have hwall : ((tickAudio s).mf.natAbs + (tickAudio s).sf.natAbs : Nat) ≤ regInt (tickFront s).ac.audio.limCeil := by
    simp only [tickAudio, fetchFrame_ac]
    exact condition_natAbs_add_le ha _ _
  exact contributions_sum_natAbs_le (by omega) ha.rdsLevel (rdsSample_natAbs_le (by rw [tickFront_par]; exact h.params.shape))

theorem tickParts_comp_eq_sum {s : State} (h : CopiesOk s) : (tickParts s).comp = (tickParts s).sum := by
  have := tickParts_sum_natAbs_le h
  exact sat24_of_range (by omega) (by omega)

theorem tickAudio_next_range {s : State} (h : CopiesOk s) (he : s.cond.env.toNat ≤ 8388608) :
    (tickAudio s).next.env.toNat ≤ 8388608 ∧ (tickAudio s).next.gc.toNat ≤ 32768 ∧ (tickAudio s).next.lg.toNat ≤ 32768 :=
  condition_next_range (by simpa using tickFront_audioRange h) (by simpa using he) _

/-- The bit clock and the carrier advance together: 12 divides 192 (42_subcarrier_modulator.md R210, R291). -/
theorem bitPh_phase_succ : ∀ (b : Fin 192) (p : Fin 12), b.val % 12 = p.val → (b + 1).val % 12 = (p + 1).val := by
  intro b p h
  rw [Fin.val_add, Fin.val_add]
  simp only [Fin.val_one]
  omega

theorem SignalOk.tick {s : State} (h : SignalOk s) (hc : CopiesOk s) : SignalOk (tick s).2 := by
  obtain ⟨-, -, -, -, hcond, -, hmodu, -⟩ := tick_parts s
  obtain ⟨hb, hp⟩ := tickFront_counters s
  refine ⟨?_, ?_, ?_⟩
  · rw [hcond]; exact tickAudio_next_range hc h.gains.1
  · rw [hmodu]
    exact bitPh_phase_succ _ _ (by rw [hb, hp]; exact h.phase)
  · rw [(tick_ctl s).2 6 (by decide), h.noClip]
    simp [tickParts_comp_eq_sum hc, ainUnderBit]

theorem EngineOk.tick {s : State} (h : EngineOk s) : EngineOk (tick s).2 :=
  ⟨h.copies.of_adopts (tick_adopts s), h.pipeline.of_adopts (tick_adopts s) (tick_pipe s), h.signal.tick h.copies⟩

/-! ### The rate converter and the delivery pipeline -/

theorem EngineOk.setConv {s : State} (h : EngineOk s) (c : Converter) : EngineOk (s.setConv c) :=
  ⟨h.copies.of_adopts .of_eq, h.pipeline, ⟨h.signal.gains, h.signal.phase, h.signal.noClip⟩⟩

/-- The loop of rs_out, given turns enough, ends with RS_POS below RS_L and the bank entry in place (45_rate_converter.md R304). -/
theorem rsPull_conv (n : Nat) (s : State) (hn : s.conv.pos.toNat ≤ n) :
    (rsPull n s).conv.entry = s.conv.entry ∧ (rsPull n s).conv.pos.toNat < s.conv.entry.l.val := by
  induction n generalizing s with
  | zero => exact ⟨rfl, by have := s.conv.entry.l.property; simp only [rsPull]; omega⟩
  | succ n ih =>
    unfold rsPull
    split
    · obtain ⟨he, hp, -⟩ := rsInput_conv s
      have hl := s.conv.entry.l.property
      have hpos := s.conv.pos.isLt
      rw [Nat.mod_eq_of_lt (by omega)] at hp
      rw [← he]
      exact ih (rsInput s) (by omega)
    · exact ⟨rfl, by omega⟩

/-- Between calls RS_POS is in RS_L .. RS_L + RS_M - 1: below RS_L after the loop, and RS_M is added (45_rate_converter.md R303). -/
theorem rsOut_converterOk {s : State} (h : ConverterOk s.conv) : ConverterOk (rsOut s).2.conv := by
  obtain ⟨rate, he⟩ := h.entry
  obtain ⟨hentry, hpos⟩ := rsPull_conv _ s le_rfl
  have hfit := he.fits
  have hlow := he.lowers
  refine ⟨⟨rate, ?_⟩, ?_⟩ <;> simp only [rsOut, State.setConv_conv, hentry]
  · exact he
  · rw [BitVec.toNat_ofNat, Nat.mod_eq_of_lt (by omega)]
    omega

theorem Invariant.tick {s : State} (h : Invariant s) : Invariant (tick s).2 :=
  (invariant_iff _).2 ⟨h.engineOk.tick, by rw [tick_conv]; exact h.converterOk⟩

theorem Invariant.rsOut {s : State} (h : Invariant s) : Invariant (rsOut s).2 :=
  (invariant_iff _).2 ⟨rsOut_induction (fun _ c h => h.setConv c) (fun _ h => h.tick) s h.engineOk,
    rsOut_converterOk h.converterOk⟩

end Sys2Proof.Machine

/-! ### Takes -/

namespace Sys2Proof.Machine

/-- The end of a buffer does not depend on the count it clears (46_delivery_pipeline.md R339). -/
theorem bufferComplete_setPipe_bufPos (s : State) (n : BitVec 13) :
    bufferComplete (s.setPipe { s.pipe with bufPos := n }) = bufferComplete s := rfl

/-- The end of a buffer empties it, and tears down if a STOP waits (R339). -/
theorem Invariant.bufferComplete {s : State} (h : Invariant s) : Invariant (bufferComplete s) := by
  have hempty : PipelineOk { s.pipe with bufPos := 0 } s.flags :=
    ⟨h.idle, fun hs => ⟨(h.streaming hs).1, h.bufLen.1⟩, h.bufLen⟩
  have hlatched : Invariant (((s.setPipe { s.pipe with bufPos := 0 }).setMon (latchMonitors s)).setAcc Accumulators.reset) :=
    (h.setPipe hempty).of_untouched .of_eq
  rw [bufferComplete_eq]
  split
  · exact hlatched.of_teardown
  · exact hlatched

/-- A take that does not end the buffer leaves room in it, and one that does empties it (R336). -/
theorem Invariant.countTake {s : State} (h : Invariant s) (hs : s.pipe.stream = .streaming) : Invariant (countTake s) := by
  obtain ⟨hv, hroom⟩ := h.streaming hs
  have hlen := h.bufLen.2
  rw [countTake_eq]
  split
  · rw [bufferComplete_setPipe_bufPos]
    exact h.bufferComplete
  · rename_i hne
    refine h.setPipe ⟨h.idle, fun _ => ⟨hv, ?_⟩, h.bufLen⟩
    change (s.pipe.bufPos + 1#13).toNat < s.pipe.bufLenAct.toNat
    bv_omega

theorem Invariant.sinkTake {s : State} (h : Invariant s) : Invariant (sinkTake s).2 := by
  rw [sinkTake_snd]
  split
  · exact h
  · have hs : s.pipe.stream = .streaming := by cases hp : s.pipe.stream <;> simp_all
    split
    · exact h.rsOut.countTake (by rw [rsOut_pipe]; exact hs)
    · exact h.tick.countTake (by rw [tick_pipe]; exact hs)

theorem Invariant.sinkFail {s : State} (h : Invariant s) : Invariant (sinkFail s) := by
  unfold Machine.sinkFail
  split
  · exact h
  · exact h.of_teardown.of_untouched (raise_untouched ..)

/-! ### COMMIT -/

theorem piLegal_iff (par : Params) (c : Settings) : piLegal par.piReserved c.station.pi = true ↔ ¬PiBad par c := by
  simp [piLegal, PiBad]

/-- The check of the AF entries, for a count that names registers only (10_state.md R35). -/
theorem not_afBad_of_afInRange {c : Settings} (h : afInRange c.station = true) : ¬AfBad c := by
  rintro ⟨i, hi, hbad⟩
  have := List.all_eq_true.1 h i.val (List.mem_range.2 hi)
  simp only [Station.afEntry, i.isLt, dite_true, decide_eq_true_eq] at this
  simp only [Fin.getElem_fin] at hbad
  omega

/-- The slots in use are the first SCHED_LEN entries (10_state.md R37). -/
theorem mem_slotsInUse {st : Station} {x : BitVec 2} :
    x ∈ slotsInUse st ↔ ∃ i : Fin 32, i.val < st.schedLen.toNat ∧ st.sched[i] = x := by
  unfold slotsInUse
  rw [List.mem_take_iff_getElem]
  constructor
  · rintro ⟨i, hi, hx⟩
    simp only [Vector.length_toList] at hi
    exact ⟨⟨i, by omega⟩, by simp only; omega, by simpa using hx⟩
  · rintro ⟨i, hi, hx⟩
    exact ⟨i.val, by simp only [Vector.length_toList]; omega, by simpa using hx⟩

theorem not_schedBad_of_schedLegal {c : Settings} (h : schedLegal c.station = true) : ¬SchedBad c := by
  simp only [schedLegal, Bool.and_eq_true, decide_eq_true_eq, List.all_eq_true, List.any_eq_true] at h
  obtain ⟨⟨⟨h0, h32⟩, hno3⟩, x, hx, hx2⟩ := h
  rintro (hz | hl | ⟨i, hi, h3⟩ | hall)
  · exact h0 hz
  · omega
  · exact hno3 _ (mem_slotsInUse.2 ⟨i, hi, rfl⟩) h3
  · obtain ⟨i, hi, rfl⟩ := mem_slotsInUse.1 hx
    exact hx2 (hall i hi)

theorem not_ctBad_of_ctLegal {c : Settings} (h : ctLegal c.station = true) : ¬CtBad c := by
  rintro ⟨hv, hbad⟩
  simp [ctLegal, hv] at h
  omega

theorem not_audioBad_of_audioLegal {c : Settings} (h : audioLegal c.audio = true) : ¬AudioBad c := by
  simp only [audioLegal, q15Positive, Bool.and_eq_true, decide_eq_true_eq] at h
  unfold rdsLevelMax at h
  unfold AudioBad
  omega

/-- A chain of checks ends in `ok` exactly when its first check does not fail and the rest of the chain ends in `ok`. -/
theorem checks_eq_iff {α : Type} {fails : Prop} [Decidable fails] {code rest ok : α} (h : code ≠ ok) :
    (if fails then code else rest) = ok ↔ ¬fails ∧ rest = ok := by
  split <;> simp_all

/-- The configuration passes every check of R143. -/
structure Legal (par : Params) (c : Settings) : Prop where
  pi : ¬PiBad par c
  station : StationOk c
  audio : ¬AudioBad c

/-- What a COMMIT admits is legal (40_host_operations.md R143). -/
theorem legal_of_validate_eq_zero {par : Params} {c : Settings} (h : validate par c = 0) : Legal par c := by
  simp (disch := decide) only [validate, checks_eq_iff, Bool.not_eq_false] at h
  obtain ⟨hpi, htext, hcount, haf, hsched, hct, haudio, -⟩ := h
  exact ⟨(piLegal_iff par c).1 hpi,
    ⟨htext, hcount, not_afBad_of_afInRange haf, not_schedBad_of_schedLegal hsched, not_ctBad_of_ctLegal hct⟩,
    not_audioBad_of_audioLegal haudio⟩

theorem CopiesOk.of_legal {s : State} (par : ParamsOk s.par) (pe : Legal s.par s.pe) (ac : Legal s.par s.ac) : CopiesOk s :=
  ⟨par, ⟨pe.station, pe.audio⟩, ⟨ac.station, ac.audio⟩, fun _ => ⟨pe.pi, ac.pi⟩⟩

/-- A COMMIT in IDLE: the shadow copy goes through PE to AC, and nothing waits (R142, 20_memory.md R84). -/
theorem adopt_snapshot_eq (s : State) : adoptAudio (adoptStation (snapshot s)) =
    ((s.setPe s.sh).setAc s.sh).setFlags ⟨false, false, true, nextRtAb (snapshot s)⟩ := rfl

/-- COMMIT keeps the invariant: what it admits is legal, and PE alone changes while STREAMING (R142). -/
theorem Invariant.commit {s : State} (h : Invariant s) : Invariant (commit s) := by
  rcases commit_cases s with ⟨-, hc⟩ | ⟨hval, hs, hc⟩ | ⟨hval, hs, hc⟩ <;> rw [hc]
  · exact h.of_untouched (raise_untouched ..)
  · have hsh := legal_of_validate_eq_zero hval
    rw [adopt_snapshot_eq]
    refine h.of_copies (.of_legal h.params hsh hsh) ⟨fun _ => ⟨rfl, rfl, (h.idle hs).2.2⟩, fun hst => ?_, h.bufLen⟩
    rw [State.setFlags_pipe, State.setAc_pipe, State.setPe_pipe, hs] at hst
    cases hst
  · obtain ⟨hv, hroom⟩ := h.streaming hs
    have hac : Legal s.par s.ac := ⟨(h.committed hv).2, h.active.1, h.active.2⟩
    refine h.of_copies (.of_legal h.params (legal_of_validate_eq_zero hval) hac)
      ⟨fun hi => ?_, fun _ => ⟨rfl, hroom⟩, h.bufLen⟩ rfl rfl rfl rfl
    rw [show (snapshot s).pipe = s.pipe from rfl, hs] at hi
    cases hi

/-! ### START and the resets -/

/-- START's own checks pass: IDLE, configured, a length for the buffer and, in live mode, a bank entry (R146 to R149). -/
theorem startRefusal_eq_none_iff (s : State) : startRefusal s = none ↔
    s.pipe.stream = .idle ∧ s.flags.cfgValid = true ∧ (1 ≤ s.ctl.bufLen.toNat ∧ s.ctl.bufLen.toNat ≤ 4096) ∧
      (s.ctl.live = true → bankLookup s.par s.ctl.outRate ≠ none) := by
  have hlen : ¬(s.ctl.bufLen.toNat = 0 ∨ bufMax < s.ctl.bufLen.toNat) ↔
      1 ≤ s.ctl.bufLen.toNat ∧ s.ctl.bufLen.toNat ≤ 4096 := by unfold bufMax; omega
  simp (disch := decide) only [startRefusal, checks_eq_iff, hlen, ne_eq, not_not, Bool.not_eq_false, not_and, and_true]

/-- The entry START latches conforms: it is the bank's, or the one that was in place (45_rate_converter.md R301). -/
theorem latchedEntry_entryOk {s : State} (hb : ∀ x, x ∈ s.par.rsBank → EntryOk x.1 x.2) (he : ∃ rate, EntryOk rate s.conv.entry)
    (hl : s.ctl.live = true → bankLookup s.par s.ctl.outRate ≠ none) : ∃ rate, EntryOk rate (latchedEntry s) := by
  unfold latchedEntry
  split
  · rename_i hlive
    obtain ⟨e, hlook⟩ := Option.ne_none_iff_exists'.1 (hl hlive)
    rw [hlook]
    exact ⟨_, hb _ (mem_of_bankLookup hlook)⟩
  · exact he

/-- The converter a START leaves: RS_POS at RS_L, the lower end of its range (45_rate_converter.md R303). -/
theorem beginStream_converterOk {s : State} (he : ∃ rate, EntryOk rate (latchedEntry s)) : ConverterOk (beginStream s).conv := by
  obtain ⟨rate, he⟩ := he
  have hfit := he.fits
  have hlow := he.lowers
  refine ⟨⟨rate, he⟩, ?_⟩
  simp only [beginStream, State.setConv_conv]
  rw [BitVec.toNat_ofNat, Nat.mod_eq_of_lt (by omega)]
  omega

theorem conditioning_reset_range : Conditioning.reset.env.toNat ≤ 8388608 ∧ Conditioning.reset.gc.toNat ≤ 32768 ∧
    Conditioning.reset.lg.toNat ≤ 32768 := by decide

theorem beginStream_pipe (s : State) : (beginStream s).pipe =
    ⟨.streaming, false, 0, s.ctl.live, s.ctl.bufLen⟩ := rfl

theorem beginStream_adopts (s : State) : Adopts s (beginStream s) := by
  unfold beginStream
  exact .of_eq

/-- A START that passed its checks begins an empty buffer of a legal length, with the gains and the counters reset (R146). -/
theorem beginStream_invariant {s : State} (h : Invariant s) (hs : startRefusal s = none) : Invariant (beginStream s) := by
  obtain ⟨-, hv, hlen, hlive⟩ := (startRefusal_eq_none_iff s).1 hs
  refine (invariant_iff _).2 ⟨⟨h.engineOk.copies.of_adopts (beginStream_adopts s), ?_, ⟨conditioning_reset_range, rfl, h.noClip⟩⟩,
    beginStream_converterOk (latchedEntry_entryOk h.params.bank h.entry hlive)⟩
  rw [beginStream_pipe]
  exact ⟨nofun, fun _ => ⟨hv, hlen.1⟩, hlen⟩

/-- The sink's answer does not touch what START checks (10_state.md R59). -/
theorem startRefusal_sinkOpen (rate : Word) (live : Bool) (s : State) :
    startRefusal (sinkOpen rate live s).2 = startRefusal s := by
  simp only [startRefusal, sinkOpen_pipe, sinkOpen_flags, sinkOpen_ctl, sinkOpen_par]

theorem Invariant.start {s : State} (h : Invariant s) : Invariant (start s) := by
  have hopened := h.of_untouched (sinkOpen_untouched (offeredRate s) s.ctl.live s)
  rcases start_cases s with ⟨c, code, -, hst⟩ | ⟨hnone, ⟨-, hst⟩ | ⟨-, hst⟩ | ⟨-, hst⟩⟩ <;> rw [hst]
  · exact h.of_untouched (raise_untouched ..)
  · exact beginStream_invariant hopened (by rw [startRefusal_sinkOpen]; exact hnone)
  · exact hopened.of_untouched (raise_untouched ..)
  · exact hopened.of_untouched (raise_untouched ..)

theorem Invariant.stop {s : State} (h : Invariant s) : Invariant (stop s) := by
  rcases stop_cases s with ⟨-, hst⟩ | ⟨-, -, hst⟩ | ⟨hs, -, hst⟩ <;> rw [hst]
  · exact h
  · exact h.of_teardown
  · exact h.setPipe ⟨fun hi => absurd (hs.symm.trans hi) nofun, h.streaming, h.bufLen⟩

/-- The reset configuration is legal but for its PI of 0 (10_state.md R61). -/
theorem settings_reset_ok : StationOk Settings.reset ∧ ¬AudioBad Settings.reset := by
  unfold StationOk TextBad AfCountBad AfBad SchedBad CtBad AudioBad
  decide

theorem pipelineOk_reset : PipelineOk Pipeline.reset CommitFlags.reset := ⟨fun _ => ⟨rfl, rfl, rfl⟩, nofun, by decide⟩

theorem converterOk_reset : ConverterOk Converter.reset :=
  ⟨⟨48000#32, by decide, by decide, by decide, by decide, by decide +kernel, by decide⟩, by decide⟩

/-- A hardware reset establishes the invariant whatever the state was, for the parameters stay (70_reset_and_hazards.md R400, R402). -/
theorem hardwareReset_invariant {s : State} (h : ParamsOk s.par) : Invariant (hardwareReset s) :=
  (invariant_iff _).2 ⟨⟨⟨h, settings_reset_ok, settings_reset_ok, nofun⟩, pipelineOk_reset,
    ⟨conditioning_reset_range, rfl, (by decide : Control.reset.err.getLsbD 6 = false)⟩⟩, converterOk_reset⟩

end Sys2Proof.Machine

/-! ### Every instruction -/

namespace Sys2Proof.Machine

theorem Invariant.softReset {s : State} (h : Invariant s) : Invariant (softReset s) := by
  unfold Machine.softReset
  split
  · exact hardwareReset_invariant h.params
  · exact hardwareReset_invariant (by rw [pulseRelease_par]; exact h.params)

theorem Invariant.doCommand {s : State} (h : Invariant s) (op : BitVec 8) : Invariant (doCommand op s) := by
  unfold Machine.doCommand
  split
  · exact h
  split
  · exact h.commit
  split
  · exact h.start
  split
  · exact h.stop
  split
  · exact h.softReset
  · exact h.of_untouched (raise_untouched ..)

/-- A write of a register that takes writes is a command, clears flags, or changes what the invariant does not read. -/
theorem Invariant.writeReg {s : State} (h : Invariant s) (v : Word) (r : Reg) : Invariant (writeReg v s r) := by
  cases hw : r.takesWrites with
  | false => rw [writeReg_of_readOnly hw]; exact h
  | true =>
    cases r with
    | cmd => exact h.doCommand _
    | err => exact h.of_untouched (clearErr_untouched v s)
    | irqEn | mode | outRate | bufLen | shadow => exact h.of_untouched (by unfold Machine.writeReg; exact .of_eq)
    | _ => simp [Reg.takesWrites] at hw

theorem Invariant.memWrite {s : State} (h : Invariant s) (a : RegIndex) (v : Word) : Invariant (memWrite a v s) := by
  unfold Machine.memWrite
  split
  · exact h.writeReg v _
  · exact h

theorem Invariant.report {s : State} (h : Invariant s) (r : EngineResult) : Invariant (report r s) := h.of_untouched .of_eq

/-- A row that shows a sample keeps the invariant when its step does (log 3). -/
theorem Invariant.sampleRow {run : State → Int × State} {s : State} (h : Invariant (run s).2) : Invariant (sampleRow run s) :=
  h.report _

/-- What an arm answers is its next state. -/
theorem Invariant.of_next {s t : State} (h : (.next s : Host.Outcome State Fault Refusal) = .next t) (hs : Invariant s) :
    Invariant t := by
  obtain rfl := Host.Outcome.next.inj h
  exact hs

/-- Every instruction keeps the invariant, the engine's rows run alone included. -/
theorem Invariant.exec {s t : State} {i : Instr} (hs : Invariant s) (h : exec i s = .next t) : Invariant t := by
  cases i with
  | rd a d => exact .of_next h (hs.of_untouched .of_eq)
  | wr a d => exact .of_next h (hs.memWrite a d)
  | nop g => exact .of_next h hs
  | commit g => exact .of_next h hs.commit
  | start g => exact .of_next h hs.start
  | stop g => exact .of_next h hs.stop
  | softReset g => exact .of_next h hs.softReset
  | cmdReserved op g => exact .of_next h (hs.of_untouched (raise_untouched ..))
  | slot0A => exact .of_next h (hs.of_untouched .of_eq)
  | slot2A => exact .of_next h (hs.of_untouched .of_eq)
  | slot4A =>
    change execSlot4A s = .next t at h
    unfold execSlot4A at h
    split at h
    · exact .of_next h (hs.of_untouched .of_eq)
    · exact .of_next h (hs.of_untouched .of_eq)
  | slotReserved => exact .of_next h (hs.of_untouched .of_eq)
  | group0A => exact .of_next h (hs.of_untouched .of_eq)
  | group2A => exact .of_next h (hs.of_untouched .of_eq)
  | group4A => exact .of_next h (hs.of_untouched .of_eq)
  | block => exact .of_next h (hs.report _)
  | group => exact .of_next h (hs.report _)
  | tick =>
    refine .of_next h ?_
    split
    · exact hs.tick.sampleRow
    · exact hs
  | bit => exact .of_next h (hs.of_untouched (bitStep_untouched s))
  | nextGroup => exact .of_next h (hs.of_untouched .of_eq)
  | rsOut =>
    refine .of_next h ?_
    split
    · exact hs.rsOut.sampleRow
    · exact hs
  | sinkTake => exact .of_next h (hs.sinkTake.of_untouched .of_eq)
  | sinkFail => exact .of_next h hs.sinkFail
  | hwReset => exact .of_next h (hardwareReset_invariant hs.params)

/-- Settles O60: taking the request moves nothing the invariant reads, and every instruction keeps it. -/
theorem invariantIsKeptByEveryStep : Obligations.InvariantIsKeptByEveryStep := by
  unfold Obligations.InvariantIsKeptByEveryStep
  intro s t hs hstep
  obtain ⟨i, hi⟩ := exists_exec_of_step hstep
  exact (hs.of_untouched (takeRequest_untouched s)).exec hi

end Sys2Proof.Machine

/-! ### What an instruction can do to the configuration copies and to ERR -/

namespace Sys2Proof.Machine

/-- From `s` to `t` the copies and ERR move as the engine alone moves them: the shadow and the pending copy stay, a half of the active copy
moves by the adoption of a half that waited, and no flag of ERR falls (10_state.md R25, 20_memory.md R82, R83). -/
structure Conserves (s t : State) : Prop extends Adopts s t where
  sh : t.sh = s.sh
  stationWaits : s.flags.pendRds = false → t.ac.station = s.ac.station
  audioWaits : s.flags.pendAud = false → t.ac.audio = s.ac.audio
  err : ∀ k, k < 7 → s.ctl.err.getLsbD k = true → t.ctl.err.getLsbD k = true

/-- An operation conserves the copies and ERR when it has no part in them. -/
theorem Conserves.of_eq {s t : State} (par : t.par = s.par := by simp) (pe : t.pe = s.pe := by simp)
    (ac : t.ac = s.ac := by simp) (flags : t.flags = s.flags := by simp) (sh : t.sh = s.sh := by simp)
    (err : t.ctl.err = s.ctl.err := by simp) : Conserves s t where
  toAdopts := .of_eq par pe ac flags
  sh := sh
  stationWaits _ := by rw [ac]
  audioWaits _ := by rw [ac]
  err _ _ h := by rw [err, h]

/-- A half that did not wait at first does not wait later, so it moves in neither part. -/
theorem Conserves.trans {s t u : State} (h : Conserves s t) (k : Conserves t u) : Conserves s u where
  toAdopts := h.toAdopts.trans k.toAdopts
  sh := k.sh.trans h.sh
  stationWaits hw := (k.stationWaits (h.pendRds hw)).trans (h.stationWaits hw)
  audioWaits hw := (k.audioWaits (h.pendAud hw)).trans (h.audioWaits hw)
  err n hn hset := k.err n hn (h.err n hn hset)

/-- The station half of AC: as it was, or PE's where it waited (20_memory.md R82). -/
theorem Conserves.station_cases {s t : State} (h : Conserves s t) :
    t.ac.station = s.ac.station ∨ (s.flags.pendRds = true ∧ t.ac.station = s.pe.station) := by
  cases hw : s.flags.pendRds with
  | false => exact .inl (h.stationWaits hw)
  | true => exact h.station.imp_right (⟨rfl, ·⟩)

/-- The audio half of AC: as it was, or PE's where it waited (20_memory.md R83). -/
theorem Conserves.audio_cases {s t : State} (h : Conserves s t) :
    t.ac.audio = s.ac.audio ∨ (s.flags.pendAud = true ∧ t.ac.audio = s.pe.audio) := by
  cases hw : s.flags.pendAud with
  | false => exact .inl (h.audioWaits hw)
  | true => exact h.audio.imp_right (⟨rfl, ·⟩)

/-! ### The operations that conserve the copies and ERR -/

theorem raise_conserves (c : ErrorClass) (code : BitVec 8) (s : State) : Conserves s (raise c code s) where
  toAdopts := .of_eq
  sh := rfl
  stationWaits _ := rfl
  audioWaits _ := rfl
  err _ hk hset := errWith_of_set hk hset

theorem adoptStation_conserves (s : State) : Conserves s (adoptStation s) where
  toAdopts := adoptStation_adopts s
  sh := by simp
  stationWaits hw := by simp [adoptStation_ac, hw]
  audioWaits _ := by rw [adoptStation_ac]; split <;> rfl
  err _ _ hset := by simpa using hset

theorem adoptAudio_conserves (s : State) : Conserves s (adoptAudio s) where
  toAdopts := adoptAudio_adopts s
  sh := by simp
  stationWaits _ := by rw [adoptAudio_ac]; split <;> rfl
  audioWaits hw := by simp [adoptAudio_ac, hw]
  err _ _ hset := by simpa using hset

theorem teardown_conserves (s : State) : Conserves s (teardown s) := by
  have hidle : Conserves s (pulseRelease (s.setPipe { s.pipe with stream := .idle, stopReq := false })) := .of_eq
  exact hidle.trans ((adoptStation_conserves _).trans (adoptAudio_conserves _))

theorem groupBoundary_conserves (s : State) : Conserves s (groupBoundary s) := by
  unfold groupBoundary
  exact (adoptStation_conserves s).trans .of_eq

theorem bitStep_conserves (s : State) : Conserves s (bitStep s) := by
  rw [bitStep_eq]
  split
  · exact (groupBoundary_conserves s).trans .of_eq
  · exact .of_eq

/-- A tick adopts the halves that wait and can only set AIN_UNDER and CLIP (44_multiplex_composer.md R290). -/
theorem tick_conserves (s : State) : Conserves s (tick s).2 where
  toAdopts := tick_adopts s
  sh := tick_sh s
  stationWaits hw := by
    obtain ⟨-, hac, -⟩ := tick_parts s
    rw [hac]
    exact (tickFront_ac s).1.resolve_right (by simp [hw])
  audioWaits hw := by
    obtain ⟨-, hac, -⟩ := tick_parts s
    rw [hac, (tickFront_ac s).2, hw]
    rfl
  err k hk hset := by rw [(tick_ctl s).2 k hk, hset]; rfl

/-- The ticks of one rs_out conserve, one after the other, however many its loop makes (45_rate_converter.md R304). -/
theorem rsOut_conserves (s : State) : Conserves s (rsOut s).2 :=
  rsOut_induction (P := Conserves s) (fun _ _ h => h.trans .of_eq) (fun t h => h.trans (tick_conserves t)) s .of_eq

theorem bufferComplete_conserves (s : State) : Conserves s (bufferComplete s) := by
  have hlatched : Conserves s
      (((s.setPipe { s.pipe with bufPos := 0 }).setMon (latchMonitors s)).setAcc Accumulators.reset) := .of_eq
  rw [bufferComplete_eq]
  split
  · exact hlatched.trans (teardown_conserves _)
  · exact hlatched

theorem countTake_conserves (s : State) : Conserves s (countTake s) := by
  rw [countTake_eq]
  split
  · rw [bufferComplete_setPipe_bufPos]
    exact bufferComplete_conserves s
  · exact .of_eq

theorem sinkTake_conserves (s : State) : Conserves s (sinkTake s).2 := by
  rw [sinkTake_snd]
  split
  · exact .of_eq
  split
  · exact (rsOut_conserves s).trans (countTake_conserves _)
  · exact (tick_conserves s).trans (countTake_conserves _)

theorem sinkFail_conserves (s : State) : Conserves s (sinkFail s) := by
  unfold sinkFail
  split
  · exact .of_eq
  · exact (teardown_conserves s).trans (raise_conserves ..)

theorem beginStream_conserves (s : State) : Conserves s (beginStream s) := by
  unfold beginStream
  exact .of_eq

theorem start_conserves (s : State) : Conserves s (start s) := by
  have hopened : Conserves s (sinkOpen (offeredRate s) s.ctl.live s).2 := .of_eq
  rcases start_cases s with ⟨c, code, -, hst⟩ | ⟨-, ⟨-, hst⟩ | ⟨-, hst⟩ | ⟨-, hst⟩⟩ <;> rw [hst]
  · exact raise_conserves ..
  · exact hopened.trans (beginStream_conserves _)
  · exact hopened.trans (raise_conserves ..)
  · exact hopened.trans (raise_conserves ..)

theorem stop_conserves (s : State) : Conserves s (stop s) := by
  rcases stop_cases s with ⟨-, hst⟩ | ⟨-, -, hst⟩ | ⟨-, -, hst⟩ <;> rw [hst]
  · exact .of_eq
  · exact teardown_conserves s
  · exact .of_eq

/-- Showing a row's sample conserves, so the row conserves when its step does (log 3). -/
theorem sampleRow_conserves {run : State → Int × State} {s : State} (h : Conserves s (run s).2) :
    Conserves s (sampleRow run s) := by
  rw [sampleRow_eq]
  exact h.trans .of_eq

/-! ### The effect of every instruction -/

/-- A COMMIT that passed: PE is the shadow copy, AC too in IDLE, and ERR is not written (40_host_operations.md R142). -/
theorem commit_of_valid {s : State} (h : validate s.par s.sh = 0) :
    (commit s).sh = s.sh ∧ (commit s).pe = s.sh ∧ (commit s).ctl = s.ctl ∧
      ((commit s).ac = s.ac ∨ (s.pipe.stream = .idle ∧ (commit s).ac = s.sh)) := by
  rcases commit_cases s with ⟨hne, -⟩ | ⟨-, hs, hc⟩ | ⟨-, -, hc⟩
  · exact absurd h hne
  · rw [hc, adopt_snapshot_eq]
    exact ⟨rfl, rfl, rfl, .inr ⟨hs, rfl⟩⟩
  · rw [hc]
    exact ⟨rfl, rfl, rfl, .inl rfl⟩

/-- All that instruction `i` can do in `s` to the copies and to ERR. Besides the resets there are three writers: a COMMIT that passed, a
WR of a shadow register, a WR of ERR. -/
inductive Effect (i : Instr) (s : State) : State → Prop
  | conserved {t : State} (h : Conserves s t) : Effect i s t
  | reset {t : State} (h : ResetOp i) : Effect i s t
  | committed (h : CommitOp i) (hv : validate s.par s.sh = 0) : Effect i s (commit s)
  | shadow (r : ConfReg) (v : Word) (h : i = .wr (wordIndex (confByteAddr r)) v) : Effect i s (s.setSh (writeConf s.sh v r))
  | cleared (v : Word) (h : i = .wr (wordIndex 0x00C) v) : Effect i s (clearErr v s)

/-- A COMMIT that fails only raises its error (R142 (a)). -/
theorem commit_effect {i : Instr} (h : CommitOp i) (s : State) : Effect i s (commit s) := by
  rcases commit_cases s with ⟨-, hc⟩ | ⟨hv, -⟩ | ⟨hv, -⟩
  · rw [hc]
    exact .conserved (raise_conserves ..)
  · exact .committed h hv
  · exact .committed h hv

/-- A write of CMD has the effect of the command it names (40_host_operations.md R145). -/
theorem doCommand_effect (v : Word) (s : State) : Effect (.wr 1 v) s (doCommand (v.setWidth 8) s) := by
  unfold doCommand
  split
  · exact .conserved .of_eq
  split
  · next h => exact commit_effect (.inr ⟨v, rfl, h⟩) s
  split
  · exact .conserved (start_conserves s)
  split
  · exact .conserved (stop_conserves s)
  split
  · next h => exact .reset (.inr (.inr ⟨v, rfl, h⟩))
  · exact .conserved (raise_conserves ..)

/-- A write of a mapped word writes its register (40_host_operations.md R141). -/
theorem memWrite_of_regAt {a : RegIndex} {r : Reg} (h : regAt a = some r) (v : Word) (s : State) :
    memWrite a v s = writeReg v s r := by
  simp only [memWrite, h]

/-- A write of an unmapped word is ignored (20_memory.md R75). -/
theorem memWrite_of_unmapped {a : RegIndex} (h : regAt a = none) (v : Word) (s : State) : memWrite a v s = s := by
  simp only [memWrite, h]

/-- A write of a word has an effect on the copies or on ERR at CMD, at ERR and in the shadow window only (20_memory.md R75, R76, R78). -/
theorem memWrite_effect (a : RegIndex) (v : Word) (s : State) : Effect (.wr a v) s (memWrite a v s) := by
  cases hr : regAt a with
  | none => rw [memWrite_of_unmapped hr]; exact .conserved .of_eq
  | some r =>
    rw [memWrite_of_regAt hr]
    cases hw : r.takesWrites with
    | false => rw [writeReg_of_readOnly hw]; exact .conserved .of_eq
    | true =>
      cases r with
      | cmd => obtain rfl := eq_of_regAt_cmd hr; exact doCommand_effect v s
      | err => exact .cleared v (by rw [eq_of_regAt_err hr]; rfl)
      | shadow r => exact .shadow r v (by rw [eq_of_regAt_shadow hr])
      | irqEn | mode | outRate | bufLen => exact .conserved (by unfold writeReg; exact .of_eq)
      | _ => simp [Reg.takesWrites] at hw

/-- What an arm answers is its next state. -/
theorem Effect.of_next {i : Instr} {s t u : State} (h : (.next u : Host.Outcome State Fault Refusal) = .next t)
    (hu : Effect i s u) : Effect i s t := by
  obtain rfl := Host.Outcome.next.inj h
  exact hu

/-- The rows that neither write nor command: they conserve the copies and ERR. -/
theorem Effect.of_conserves {i : Instr} {s t u : State} (h : (.next u : Host.Outcome State Fault Refusal) = .next t)
    (hu : Conserves s u) : Effect i s t := .of_next h (.conserved hu)

/-- Every instruction has one of the effects listed, the engine's rows run alone included. -/
theorem exec_effect {i : Instr} {s t : State} (h : exec i s = .next t) : Effect i s t := by
  cases i with
  | rd a d => exact .of_conserves h .of_eq
  | wr a d => exact .of_next h (memWrite_effect a d s)
  | nop g => exact .of_conserves h .of_eq
  | commit g => exact .of_next h (commit_effect (.inl ⟨g, rfl⟩) s)
  | start g => exact .of_conserves h (start_conserves s)
  | stop g => exact .of_conserves h (stop_conserves s)
  | softReset g => exact .reset (.inr (.inl ⟨g, rfl⟩))
  | cmdReserved op g => exact .of_conserves h (raise_conserves ..)
  | slot0A => exact .of_conserves h .of_eq
  | slot2A => exact .of_conserves h .of_eq
  | slot4A =>
    change execSlot4A s = .next t at h
    unfold execSlot4A at h
    split at h
    · exact .of_conserves h .of_eq
    · exact .of_conserves h .of_eq
  | slotReserved => exact .of_conserves h .of_eq
  | group0A => exact .of_conserves h .of_eq
  | group2A => exact .of_conserves h .of_eq
  | group4A => exact .of_conserves h .of_eq
  | block => exact .of_conserves h .of_eq
  | group => exact .of_conserves h .of_eq
  | tick =>
    refine .of_conserves h ?_
    split
    · exact sampleRow_conserves (tick_conserves s)
    · exact .of_eq
  | bit => exact .of_conserves h (bitStep_conserves s)
  | nextGroup => exact .of_conserves h .of_eq
  | rsOut =>
    refine .of_conserves h ?_
    split
    · exact sampleRow_conserves (rsOut_conserves s)
    · exact .of_eq
  | sinkTake => exact .of_conserves h ((sinkTake_conserves s).trans .of_eq)
  | sinkFail => exact .of_conserves h (sinkFail_conserves s)
  | hwReset => exact .reset (.inl rfl)

/-- Settles O31: of the five effects the engine's adopts what waits, and a COMMIT that passed moves AC in IDLE only. -/
theorem activeChangesOnlyByAdoption : Obligations.ActiveChangesOnlyByAdoption := by
  unfold Obligations.ActiveChangesOnlyByAdoption
  intro i s t h
  cases exec_effect h with
  | conserved hk => exact .inr ⟨hk.station_cases.imp_right .inl, hk.audio_cases.imp_right .inl⟩
  | reset hr => exact .inl hr
  | committed hi hv =>
    right
    obtain ⟨-, -, -, hac | ⟨hs, hac⟩⟩ := commit_of_valid hv <;> rw [hac]
    · exact ⟨.inl rfl, .inl rfl⟩
    · exact ⟨.inr (.inr ⟨hi, hs, hv, rfl⟩), .inr (.inr ⟨hi, hs, hv, rfl⟩)⟩
  | shadow => exact .inr ⟨.inl rfl, .inl rfl⟩
  | cleared => exact .inr ⟨.inl rfl, .inl rfl⟩

/-- A write of ERR keeps a set flag, unless the written word has a 1 there (20_memory.md R76). -/
theorem clearErr_err_of_set {v : Word} {s : State} {k : Nat} (hk : k < 7) (hset : s.ctl.err.getLsbD k = true) :
    (clearErr v s).ctl.err.getLsbD k = true ∨ v.getLsbD k = true := by
  cases hv : v.getLsbD k <;> simp [clearErr, hset, hv, hk]

/-- Settles O29: the one effect besides a reset that clears a flag is the write of ERR, and it clears those written as 1. -/
theorem errFlagsAreSticky : Obligations.ErrFlagsAreSticky := by
  unfold Obligations.ErrFlagsAreSticky
  intro i s t k hk h hset
  cases exec_effect h with
  | conserved hc => exact .inl (hc.err k hk hset)
  | reset hr => exact .inr (.inl hr)
  | committed _ hv =>
    obtain ⟨-, -, hctl, -⟩ := commit_of_valid hv
    exact .inl (by rw [hctl]; exact hset)
  | shadow => exact .inl hset
  | cleared v hi => exact (clearErr_err_of_set hk hset).imp_right fun hv => .inr ⟨v, hi, hv⟩

/-- Settles O30: of the effects besides a reset only a shadow write moves SH, and only a COMMIT that passed moves PE. -/
theorem shadowAndPendingHaveOneWriterEach : Obligations.ShadowAndPendingHaveOneWriterEach := by
  unfold Obligations.ShadowAndPendingHaveOneWriterEach
  intro i s t h
  cases exec_effect h with
  | conserved hc => exact .inr ⟨.inl hc.sh, .inl hc.pe⟩
  | reset hr => exact .inl hr
  | committed hi hv =>
    obtain ⟨hsh, hpe, -⟩ := commit_of_valid hv
    exact .inr ⟨.inl hsh, .inr ⟨hi, hv, hpe⟩⟩
  | shadow r v hi => exact .inr ⟨.inr ⟨r, v, hi, rfl⟩, .inl rfl⟩
  | cleared => exact .inr ⟨.inl rfl, .inl rfl⟩

end Sys2Proof.Machine

/-! ### The writable control registers (10_state.md R27 to R30) -/

namespace Sys2Proof.Machine

/-- A WR of a mapped word writes its register. -/
theorem exec_wr_of_regAt {a : RegIndex} {r : Reg} (h : regAt a = some r) (v : Word) (s : State) :
    exec (.wr a v) s = .next (writeReg v s r) :=
  congrArg Host.Outcome.next (memWrite_of_regAt h v s)

/-- A read of a mapped word reads its register. -/
theorem memRead_of_regAt {a : RegIndex} {r : Reg} (h : regAt a = some r) (s : State) : memRead a s = readReg s r := by
  simp only [memRead, h]

/-- A field in the low `n` bits reads back those bits of the word written, 0 above (20_memory.md R77). -/
theorem setWidth_setWidth_eq_and {n : Nat} (hn : n ≤ 32) (v : Word) :
    (v.setWidth n).setWidth 32 = v &&& BitVec.ofNat 32 (2 ^ n - 1) := by
  have hle : 2 ^ n ≤ 2 ^ 32 := Nat.pow_le_pow_right (by decide) hn
  apply BitVec.eq_of_toNat_eq
  rw [BitVec.toNat_and, BitVec.toNat_ofNat, Nat.mod_eq_of_lt (a := 2 ^ n - 1) (by omega), Nat.and_two_pow_sub_one_eq_mod,
    BitVec.toNat_setWidth, BitVec.toNat_setWidth]
  exact Nat.mod_eq_of_lt ((Nat.mod_lt _ (Nat.two_pow_pos n)).trans_le hle)

/-- A flag in bit 0 reads back that bit of the word written, 0 above. -/
theorem flagWord_getLsbD_zero (v : Word) : flagWord (v.getLsbD 0) = v &&& 1 := by
  have hbit : BitVec.ofBool (v.getLsbD 0) = v.setWidth 1 := by
    ext i hi
    simp [Nat.lt_one_iff.1 hi]
  rw [flagWord, hbit]
  exact setWidth_setWidth_eq_and (n := 1) (by decide) v

/-- Settles O11: each of the four words holds its register, and the field stored reads back through its width. -/
theorem wrControlRegistersStoreTheirFields : Obligations.WrControlRegistersStoreTheirFields := by
  unfold Obligations.WrControlRegistersStoreTheirFields
  intro v s
  have hirqEn : regAt (wordIndex 0x014) = some .irqEn := by decide
  have hmode : regAt (wordIndex 0x018) = some .mode := by decide
  have hrate : regAt (wordIndex 0x01C) = some .outRate := by decide
  have hlen : regAt (wordIndex 0x020) = some .bufLen := by decide
  refine ⟨⟨_, exec_wr_of_regAt hirqEn v s, rfl, ?_⟩, ⟨_, exec_wr_of_regAt hmode v s, rfl, ?_⟩,
    ⟨_, exec_wr_of_regAt hrate v s, rfl, ?_⟩, ⟨_, exec_wr_of_regAt hlen v s, rfl, ?_⟩⟩
  · rw [memRead_of_regAt hirqEn]
    exact setWidth_setWidth_eq_and (n := 7) (by decide) v
  · rw [memRead_of_regAt hmode]
    exact flagWord_getLsbD_zero v
  · rw [memRead_of_regAt hrate]
    rfl
  · rw [memRead_of_regAt hlen]
    exact setWidth_setWidth_eq_and (n := 13) (by decide) v

end Sys2Proof.Machine

/-! ### The AF code list (10_state.md R43, 30_encoding.md R111) -/

namespace Sys2Proof.Machine

/-- CL holds the count code, one code per frequency, and the filler when the count is even. -/
theorem codeList_length (st : Station) :
    st.codeList.length = st.afCount.toNat + if st.afCount.toNat % 2 = 0 then 2 else 1 := by
  by_cases h : st.afCount.toNat % 2 = 0 <;> simp [Station.codeList, h]

theorem codeList_zero (st : Station) : st.codeList.getD 0 0 = BitVec.ofNat 8 (224 + st.afCount.toNat) := rfl

/-- After the count code the frequencies stand in order. -/
theorem codeList_succ {st : Station} {i : Nat} (h : i < st.afCount.toNat) :
    st.codeList.getD (i + 1) 0 = afCode (st.afEntry i) := by
  simp [Station.codeList, List.getElem?_append_left, h]

/-- The filler stands after the last frequency (30_encoding.md R111). -/
theorem codeList_filler {st : Station} (h : st.afCount.toNat % 2 = 0) :
    st.codeList.getD (st.afCount.toNat + 1) 0 = 205#8 := by
  simp [Station.codeList, h]

/-- A frequency of 87.6 to 107.9 MHz has a code of eight bits, 875 below it (30_encoding.md R111 (a)). -/
theorem afCode_toNat {f : BitVec 11} (hlow : 876 ≤ f.toNat) (hhigh : f.toNat ≤ 1079) : (afCode f).toNat + 875 = f.toNat := by
  unfold afCode regInt
  rw [BitVec.toNat_ofInt]
  omega

/-- Settles O40: entry by entry; the filler makes the length even, and a legal count makes it at most 26. -/
theorem afCodeListIsComplete : Obligations.AfCodeListIsComplete := by
  unfold Obligations.AfCodeListIsComplete
  intro c hcount haf
  unfold AfCountBad at hcount
  have hlen := codeList_length c.station
  have heven : c.station.codeList.length % 2 = 0 := by rw [hlen]; split <;> omega
  refine ⟨heven, by rw [hlen]; split <;> omega, by rw [hlen]; split <;> omega,
    Nat.div_mul_cancel (Nat.dvd_of_mod_eq_zero heven), ?_, ?_, ?_, ?_⟩
  · rw [codeList_zero, BitVec.toNat_ofNat, Nat.mod_eq_of_lt (by omega)]
  · intro i hi
    have hrange : ¬(c.station.af[i].toNat < 876 ∨ 1079 < c.station.af[i].toNat) := fun hbad => haf ⟨i, hi, hbad⟩
    have hentry : c.station.afEntry i.val = c.station.af[i] := by simp [Station.afEntry]
    rw [codeList_succ hi, hentry]
    exact afCode_toNat (by omega) (by omega)
  · intro h
    exact ⟨by rw [hlen, if_pos h], codeList_filler h⟩
  · intro h
    rw [hlen, if_neg (by omega)]

end Sys2Proof.Machine

/-! ### The state after a hardware reset (10_state.md R61) -/

namespace Sys2Proof.Machine

/-- The characters of PS, all 0. -/
theorem station_reset_psChar : ∀ i : Fin 8, Station.reset.psChar i = 0 := by decide

/-- The characters of RT, all 0. -/
theorem station_reset_rtChar : ∀ i : Fin 64, Station.reset.rtChar i = 0 := by decide

theorem station_reset_af : ∀ i : Fin 25, Station.reset.af[i] = 0 := by decide

/-- The schedule of reset: four 0A slots, a 2A slot and a 4A slot are in use. -/
theorem station_reset_sched :
    ∀ i : Fin 32, Station.reset.sched[i] = if i.val = 4 then 1 else if i.val = 5 then 2 else 0 := by decide

theorem converter_reset_hist : ∀ k : Fin 64, Converter.reset.hist[k] = 0 := by decide

/-- Settles O27: the three copies are the one reset copy; its texts and lists are read entry by entry. -/
theorem resetStateValues : Obligations.ResetStateValues := by
  unfold Obligations.ResetStateValues
  constructor
  · intro c hc
    obtain rfl : c = Settings.reset := by rcases hc with rfl | rfl | rfl <;> rfl
    exact ⟨rfl, rfl, rfl, station_reset_psChar, rfl, station_reset_rtChar, rfl, station_reset_af, rfl, rfl, rfl, rfl, rfl, rfl, rfl,
      station_reset_sched, rfl, rfl, rfl, rfl, rfl, rfl, rfl, rfl, rfl, rfl⟩
  · exact ⟨rfl, rfl, rfl, rfl, rfl, rfl, rfl, rfl, converter_reset_hist, rfl, rfl, rfl, rfl, rfl, rfl, by decide⟩

theorem shapeAt_of_lt (h : List (BitVec 16)) {k : Nat} (hk : k < 480) : shapeAt h k = (h.getD k 0).toInt := if_pos hk

/-- A table of 480 entries that reads the same from both ends is symmetric (42_subcarrier_modulator.md R223). -/
theorem shapeAt_symmetric {h : List (BitVec 16)} (hsize : h.length = 480) (hmirror : h.reverse = h) {k : Nat} (hk : k < 480) :
    shapeAt h k = shapeAt h (479 - k) := by
  have hentry : h.getD k 0 = h.getD (479 - k) 0 := by
    conv_lhs => rw [← hmirror]
    rw [List.getD_eq_getElem?_getD, List.getD_eq_getElem?_getD, List.getElem?_reverse (by omega), hsize]
  rw [shapeAt_of_lt h hk, shapeAt_of_lt h (by omega), hentry]

/-- The default SHAPE_H is its first half and that half mirrored (42_subcarrier_modulator.md R223). -/
theorem defaultShapeH_reverse : defaultShapeH.reverse = defaultShapeH := by
  rw [defaultShapeH, ← List.map_reverse, List.reverse_append, List.reverse_reverse]

theorem defaultShapeH_length : defaultShapeH.length = 480 := by decide +kernel

/-- The default SHAPE_H conforms (42_subcarrier_modulator.md R222, R223). -/
theorem defaultShapeH_ok : ShapeOk defaultShapeH where
  size := defaultShapeH_length
  symmetric _ hk := shapeAt_symmetric defaultShapeH_length defaultShapeH_reverse hk
  bounded := by decide +kernel

/-- The default instantiation conforms: its SHAPE_H, and its one bank entry by the conditions of 45_rate_converter.md R301 (00_scope.md R8;
log 4). -/
theorem defaultParams_ok : ParamsOk defaultParams where
  pi := by decide
  shape := defaultShapeH_ok
  bank x hx := by
    obtain rfl : x = (48000#32, defaultEntry) := by simpa [defaultParams] using hx
    exact ⟨by decide, by decide, by decide, by decide, by decide +kernel, by decide⟩

/-- Settles O59: the reset state is what a hardware reset leaves of it, and its parameters conform. -/
theorem invariantHoldsAtReset : Obligations.InvariantHoldsAtReset := by
  unfold Obligations.InvariantHoldsAtReset
  have hreset : hardwareReset State.reset = State.reset := rfl
  rw [← hreset]
  exact hardwareReset_invariant defaultParams_ok

end Sys2Proof.Machine

/-! ### Fields and the words that hold them (20_memory.md R77) -/

namespace Sys2Proof.Machine

/-- The bits of a field of `n` bits that starts at bit `k` of a word. -/
def fieldBits (k n : Nat) : Word := BitVec.ofNat 32 (2 ^ n - 1) <<< k

/-- A field of `n` bits in a word of its own is 0 above them. -/
theorem setWidth_and_low {n : Nat} (hn : n ≤ 32) (f : BitVec n) :
    f.setWidth 32 &&& BitVec.ofNat 32 (2 ^ n - 1) = f.setWidth 32 := by
  have hself : (f.setWidth 32).setWidth n = f := by simp [BitVec.setWidth_setWidth_of_le _ hn]
  rw [← setWidth_setWidth_eq_and hn, hself]

/-- A field at its position is 0 outside any mask that covers the field's bits. -/
theorem field_and_of_covers {k n : Nat} (hn : n ≤ 32) (f : BitVec n) {m : Word} (hm : fieldBits k n &&& m = fieldBits k n) :
    f.setWidth 32 <<< k &&& m = f.setWidth 32 <<< k := by
  have hfield : f.setWidth 32 <<< k &&& fieldBits k n = f.setWidth 32 <<< k := by
    rw [fieldBits, ← BitVec.shiftLeft_and_distrib, setWidth_and_low hn]
  rw [← hfield, BitVec.and_assoc, hm]

/-- A field taken from a word and put back at its position is the word's bits there. -/
theorem extractLsb'_shiftLeft_eq_and {n : Nat} (hn : n ≤ 32) (v : Word) (k : Nat) :
    (v.extractLsb' k n).setWidth 32 <<< k = v &&& fieldBits k n := by
  have hfield : v.extractLsb' k n = (v >>> k).setWidth n := BitVec.eq_of_toNat_eq (by simp)
  rw [hfield, setWidth_setWidth_eq_and hn, fieldBits, BitVec.shiftLeft_and_distrib]
  ext i hi
  by_cases hk : i < k
  · simp [hk]
  · simp [hk, Nat.add_sub_cancel' (Nat.le_of_not_lt hk), BitVec.getLsbD_eq_getElem hi]

/-- A flag taken from bit `k` of a word is a field of one bit. -/
theorem flagWord_getLsbD (v : Word) (k : Nat) : flagWord (v.getLsbD k) = (v.extractLsb' k 1).setWidth 32 := by
  have hbit : BitVec.ofBool (v.getLsbD k) = v.extractLsb' k 1 := by
    ext i hi
    simp [Nat.lt_one_iff.1 hi]
  rw [flagWord, hbit]

theorem flagWord_toNat (b : Bool) : (flagWord b).toNat = b.toNat := by cases b <;> rfl

/-- The word holds the number `x` and nothing from bit `n` on. -/
def Packs (w : Word) (n x : Nat) : Prop := w.toNat = x ∧ x < 2 ^ n

/-- A field in bits 0 and up of a word of its own. -/
theorem packs_setWidth {n : Nat} (hn : n ≤ 32) (f : BitVec n) : Packs (f.setWidth 32) n f.toNat :=
  ⟨BitVec.toNat_setWidth_of_le hn, f.isLt⟩

theorem packs_flagWord (b : Bool) : Packs (flagWord b) 1 b.toNat := ⟨flagWord_toNat b, b.toNat_lt⟩

/-- A field put at bit `k`, above all that is there, adds 2^k times its value. -/
theorem Packs.or_shiftLeft {w f : Word} {j n x y : Nat} (hw : Packs w j x) (hf : Packs f n y) (k : Nat) (hjk : j ≤ k)
    (hkn : k + n ≤ 32) : Packs (w ||| f <<< k) (k + n) (x + 2 ^ k * y) := by
  obtain ⟨rfl, hx⟩ := hw
  obtain ⟨rfl, hy⟩ := hf
  have hlow : w.toNat < 2 ^ k := hx.trans_le (Nat.pow_le_pow_right (by decide) hjk)
  have hsum : w.toNat + 2 ^ k * f.toNat < 2 ^ (k + n) := by
    calc w.toNat + 2 ^ k * f.toNat < 2 ^ k * (f.toNat + 1) := by rw [Nat.mul_succ]; omega
      _ ≤ 2 ^ k * 2 ^ n := Nat.mul_le_mul_left _ hy
      _ = 2 ^ (k + n) := (Nat.pow_add ..).symm
  have hfit : 2 ^ k * f.toNat < 2 ^ 32 :=
    ((Nat.le_add_left ..).trans_lt hsum).trans_le (Nat.pow_le_pow_right (by decide) hkn)
  refine ⟨?_, hsum⟩
  rw [BitVec.toNat_or, BitVec.toNat_shiftLeft, Nat.shiftLeft_eq, Nat.mul_comm f.toNat, Nat.mod_eq_of_lt hfit, Nat.or_comm,
    ← Nat.two_pow_add_eq_or_of_lt hlow, Nat.add_comm]

/-- The two words of a 64-bit register (20_memory.md R72). -/
theorem toNat_low_add_high (x : BitVec 64) :
    (x.extractLsb' 0 32).toNat + 2 ^ 32 * (x.extractLsb' 32 32).toNat = x.toNat := by
  rw [BitVec.extractLsb'_toNat, BitVec.extractLsb'_toNat, Nat.shiftRight_eq_div_pow, Nat.shiftRight_eq_div_pow]
  omega

end Sys2Proof.Machine

/-! ### The configuration registers (20_memory.md R77, 10_state.md R31 to R40) -/

namespace Sys2Proof.Machine

/-- The fields of CT_TIME: HOUR, MIN, OFF_MAG, OFF_SIGN (10_state.md R36). -/
theorem confMask_ctTime : confMask .ctTime = fieldBits 0 5 ||| fieldBits 8 6 ||| fieldBits 16 5 ||| fieldBits 21 1 := by decide

/-- A configuration register holds 0 outside its fields. -/
theorem readConf_and_confMask (c : Settings) (r : ConfReg) : readConf c r &&& confMask r = readConf c r := by
  cases r with
  | ctTime =>
    have hhour := field_and_of_covers (k := 0) (by decide) c.station.hour (m := confMask .ctTime) (by decide)
    have hminute := field_and_of_covers (k := 8) (by decide) c.station.minute (m := confMask .ctTime) (by decide)
    have hoffMag := field_and_of_covers (k := 16) (by decide) c.station.offMag (m := confMask .ctTime) (by decide)
    have hoffSign :=
      field_and_of_covers (k := 21) (by decide) (BitVec.ofBool c.station.offSign) (m := confMask .ctTime) (by decide)
    rw [BitVec.shiftLeft_zero] at hhour
    simp only [readConf, flagWord, BitVec.and_or_distrib_right, hhour, hminute, hoffMag, hoffSign]
  | ps | rt => exact BitVec.and_allOnes
  | _ => exact setWidth_and_low (by decide) _

/-- What a configuration register reads as is the number its fields hold. -/
theorem readConf_toNat (c : Settings) (r : ConfReg) : (readConf c r).toNat = confValue c r := by
  cases r with
  | ctTime =>
    have hhour := packs_setWidth (by decide) c.station.hour
    have hminute := hhour.or_shiftLeft (packs_setWidth (by decide) c.station.minute) 8 (by decide) (by decide)
    have hoffMag := hminute.or_shiftLeft (packs_setWidth (by decide) c.station.offMag) 16 (by decide) (by decide)
    exact (hoffMag.or_shiftLeft (packs_flagWord c.station.offSign) 21 (by decide) (by decide)).1
  | ctCtrl | peSel => exact flagWord_toNat _
  | ps | rt => rfl
  | _ => exact BitVec.toNat_setWidth_of_le (by decide)

/-- A written configuration register reads back the written bits of its fields (40_host_operations.md R141). -/
theorem readConf_writeConf_self (c : Settings) (v : Word) (r : ConfReg) : readConf (writeConf c v r) r = v &&& confMask r := by
  cases r with
  | ctTime =>
    have hhour := extractLsb'_shiftLeft_eq_and (n := 5) (by decide) v 0
    have hminute := extractLsb'_shiftLeft_eq_and (n := 6) (by decide) v 8
    have hoffMag := extractLsb'_shiftLeft_eq_and (n := 5) (by decide) v 16
    have hoffSign := extractLsb'_shiftLeft_eq_and (n := 1) (by decide) v 21
    rw [BitVec.shiftLeft_zero] at hhour
    simp only [readConf, writeConf, flagWord_getLsbD, hhour, hminute, hoffMag, hoffSign, confMask_ctTime,
      BitVec.and_or_distrib_left]
  | ps i | rt i => exact (Vector.getElem_set_self i.isLt).trans BitVec.and_allOnes.symm
  | af i | sched i =>
    exact (congrArg (BitVec.setWidth 32) (Vector.getElem_set_self i.isLt)).trans (setWidth_setWidth_eq_and (by decide) v)
  | ctCtrl | peSel => exact flagWord_getLsbD_zero v
  | _ => exact setWidth_setWidth_eq_and (by decide) v

/-- Another entry of a table of registers than the one written stays. -/
theorem getElem_set_of_ne {α : Type} {n : Nat} (t : Vector α n) (x : α) {i j : Fin n} (h : j ≠ i) : (t.set i x)[j] = t[j] :=
  Vector.getElem_set_ne _ _ fun hij => h (Fin.ext hij.symm)

/-- No two configuration registers share a field: writing one leaves every other as it was (20_memory.md R78). -/
theorem readConf_writeConf_of_ne (c : Settings) (v : Word) {r q : ConfReg} (h : q ≠ r) :
    readConf (writeConf c v r) q = readConf c q := by
  cases r with
  | ps i =>
    cases q with
    | ps j => exact getElem_set_of_ne _ _ fun hij => h (congrArg _ hij)
    | _ => rfl
  | rt i =>
    cases q with
    | rt j => exact getElem_set_of_ne _ _ fun hij => h (congrArg _ hij)
    | _ => rfl
  | af i =>
    cases q with
    | af j => exact congrArg (BitVec.setWidth 32) (getElem_set_of_ne _ _ fun hij => h (congrArg _ hij))
    | _ => rfl
  | sched i =>
    cases q with
    | sched j => exact congrArg (BitVec.setWidth 32) (getElem_set_of_ne _ _ fun hij => h (congrArg _ hij))
    | _ => rfl
  | _ => cases q <;> first | rfl | exact absurd rfl h

/-- Settles O8: the map puts each copy's register at its address, and the register reads its fields and 0 outside them. -/
theorem configurationRegistersReadAtTheirAddresses : Obligations.ConfigurationRegistersReadAtTheirAddresses := by
  unfold Obligations.ConfigurationRegistersReadAtTheirAddresses
  intro r s
  refine ⟨memRead_of_regAt (regAt_confByteAddr r) s, memRead_of_regAt (regAt_confByteAddr_active r) s, fun c => ?_⟩
  refine ⟨readConf_toNat c r, ?_⟩
  rw [← readConf_and_confMask, BitVec.and_assoc, BitVec.and_not_self]
  exact BitVec.and_zero

/-- Settles O10: the word holds the register; its value follows from what it reads as. -/
theorem wrShadowStoresTheFieldsOfOneRegister : Obligations.WrShadowStoresTheFieldsOfOneRegister := by
  unfold Obligations.WrShadowStoresTheFieldsOfOneRegister
  intro r v s
  refine ⟨_, exec_wr_of_regAt (regAt_confByteAddr r) v s, rfl, readConf_writeConf_self s.sh v r,
    fun q hq => readConf_writeConf_of_ne s.sh v hq, fun q => ?_⟩
  rw [← readConf_toNat, ← readConf_toNat]
  split
  · next hq => rw [hq]; exact congrArg BitVec.toNat (readConf_writeConf_self s.sh v r)
  · next hq => exact congrArg BitVec.toNat (readConf_writeConf_of_ne s.sh v hq)

end Sys2Proof.Machine

/-! ### Control, monitor, counter and composed registers (20_memory.md R72, R75, R76) -/

namespace Sys2Proof.Machine

/-- A register that is one field reads as the number the field holds. -/
theorem memRead_toNat_of_field {a : RegIndex} {s : State} (r : Reg) (ha : regAt a = some r) {n : Nat} {f : BitVec n}
    (hn : n ≤ 32) (hf : readReg s r = f.setWidth 32) : (memRead a s).toNat = f.toNat := by
  rw [memRead_of_regAt ha, hf, BitVec.toNat_setWidth_of_le hn]

theorem packs_streamCode (x : StreamState) : Packs (streamCode x) 1 (if x = .streaming then 1 else 0) := by
  cases x <;> exact ⟨rfl, by decide⟩

/-- STATUS, field by field (10_state.md R24). -/
theorem statusWord_toNat (s : State) : (statusWord s).toNat =
    (if s.pipe.stream = .streaming then 1 else 0) + 8 * s.flags.pendRds.toNat + 16 * s.flags.pendAud.toNat +
      32 * s.flags.cfgValid.toNat + 64 * s.flags.rtAb.toNat + 128 * s.pipe.liveAct.toNat := by
  have hrds := (packs_streamCode s.pipe.stream).or_shiftLeft (packs_flagWord s.flags.pendRds) 3 (by decide) (by decide)
  have haud := hrds.or_shiftLeft (packs_flagWord s.flags.pendAud) 4 (by decide) (by decide)
  have hcfg := haud.or_shiftLeft (packs_flagWord s.flags.cfgValid) 5 (by decide) (by decide)
  have hrtAb := hcfg.or_shiftLeft (packs_flagWord s.flags.rtAb) 6 (by decide) (by decide)
  exact (hrtAb.or_shiftLeft (packs_flagWord s.pipe.liveAct) 7 (by decide) (by decide)).1

/-- CURSOR, field by field (10_state.md R53). -/
theorem cursorWord_toNat (s : State) : (cursorWord s).toNat =
    s.cur.schedIdx.toNat + 2 ^ 8 * s.cur.psIdx.toNat + 2 ^ 12 * s.cur.rtIdx.toNat + 2 ^ 16 * s.cur.afIdx.toNat +
      2 ^ 20 * s.modu.bitIdx.val := by
  have hbit : Packs (BitVec.ofNat 32 s.modu.bitIdx.val) 7 s.modu.bitIdx.val := by
    have hlt := s.modu.bitIdx.isLt
    exact ⟨Nat.mod_eq_of_lt (by omega), by omega⟩
  have hsched := packs_setWidth (by decide) s.cur.schedIdx
  have hps := hsched.or_shiftLeft (packs_setWidth (by decide) s.cur.psIdx) 8 (by decide) (by decide)
  have hrt := hps.or_shiftLeft (packs_setWidth (by decide) s.cur.rtIdx) 12 (by decide) (by decide)
  have haf := hrt.or_shiftLeft (packs_setWidth (by decide) s.cur.afIdx) 16 (by decide) (by decide)
  exact (haf.or_shiftLeft hbit 20 (by decide) (by decide)).1

/-- A 64-bit register reads as its low and its high word. -/
theorem memRead_toNat_of_halves {lo hi : RegIndex} {s : State} (rlo rhi : Reg) (hlo : regAt lo = some rlo)
    (hhi : regAt hi = some rhi) {x : BitVec 64} (hxlo : readReg s rlo = x.extractLsb' 0 32)
    (hxhi : readReg s rhi = x.extractLsb' 32 32) : (memRead lo s).toNat + 2 ^ 32 * (memRead hi s).toNat = x.toNat := by
  rw [memRead_of_regAt hlo, memRead_of_regAt hhi, hxlo, hxhi, toNat_low_add_high]

/-- Settles O7: the map names the register at each address; a register of one field, of a 64-bit half or of packed fields reads it. -/
theorem composedRegistersRead : Obligations.ComposedRegistersRead := by
  unfold Obligations.ComposedRegistersRead
  intro s
  have hstatus : regAt (wordIndex 0x008) = some .status := by decide
  have hmode : regAt (wordIndex 0x018) = some .mode := by decide
  have hcursor : regAt (wordIndex 0x23C) = some .cursor := by decide
  refine ⟨memRead_of_regAt (r := .id) (by decide) s, memRead_of_regAt (r := .cmd) (by decide) s,
    by rw [memRead_of_regAt hstatus]; exact statusWord_toNat s,
    memRead_toNat_of_field .err (by decide) (by decide) rfl, memRead_toNat_of_field .errInfo (by decide) (by decide) rfl,
    memRead_toNat_of_field .irqEn (by decide) (by decide) rfl, by rw [memRead_of_regAt hmode]; exact flagWord_toNat s.ctl.live,
    memRead_of_regAt (r := .outRate) (by decide) s, memRead_toNat_of_field .bufLen (by decide) (by decide) rfl,
    memRead_toNat_of_field .monPeak (by decide) (by decide) rfl,
    memRead_toNat_of_halves .monSumsqLo .monSumsqHi (by decide) (by decide) rfl rfl,
    memRead_of_regAt (r := .monN) (by decide) s, memRead_toNat_of_field .monPkMono (by decide) (by decide) rfl,
    memRead_toNat_of_field .monPkStereo (by decide) (by decide) rfl,
    memRead_toNat_of_field .monPkPilot (by decide) (by decide) rfl,
    memRead_toNat_of_field .monPkRds (by decide) (by decide) rfl,
    memRead_toNat_of_field .monPilotLvl (by decide) (by decide) rfl,
    memRead_toNat_of_field .monRdsLvl (by decide) (by decide) rfl, memRead_toNat_of_field .monGc (by decide) (by decide) rfl,
    memRead_toNat_of_field .monLg (by decide) (by decide) rfl, memRead_of_regAt (r := .groupCount) (by decide) s,
    memRead_toNat_of_halves .tickLo .tickHi (by decide) (by decide) rfl rfl,
    by rw [memRead_of_regAt hcursor]; exact cursorWord_toNat s⟩

/-- The holes of the shadow window, in word indices (20_memory.md R72). -/
theorem confRegAt_eq_none {n : Nat} (h : n < 0x10 ∨ (0x1B ≤ n ∧ n < 0x20) ∨ (0x49 ≤ n ∧ n < 0x50) ∨ 0x7A ≤ n) :
    confRegAt n = none := by
  unfold confRegAt
  rw [dif_neg (by omega), dif_neg (by omega), dif_neg (by omega)]
  split <;> first | rfl | omega

/-- The holes outside the two windows. -/
theorem plainRegAt_eq_none {n : Nat} (h : (0x09 ≤ n ∧ n < 0x80) ∨ 0x90 ≤ n) : plainRegAt n = none := by
  unfold plainRegAt
  split <;> first | rfl | omega

/-- A word of the shadow window holds what its index gives. -/
theorem regAt_of_shadowWindow {a : RegIndex} (h : 0x10 ≤ a.toNat ∧ a.toNat < 0x80) :
    regAt a = (confRegAt a.toNat).map .shadow := if_pos h

/-- A word of the active window holds what the word 0x100 below it does in the shadow window. -/
theorem regAt_of_activeWindow {a : RegIndex} (h : 0x110 ≤ a.toNat ∧ a.toNat < 0x180) :
    regAt a = (confRegAt (a.toNat - 0x100)).map .active := by
  unfold regAt
  rw [if_neg (by omega), if_pos h]

theorem regAt_of_plain {a : RegIndex} (h : a.toNat < 0x10 ∨ (0x80 ≤ a.toNat ∧ a.toNat < 0x110) ∨ 0x180 ≤ a.toNat) :
    regAt a = plainRegAt a.toNat := by
  unfold regAt
  rw [if_neg (by omega), if_neg (by omega)]

/-- The holes of the map (20_memory.md R72), window by window. -/
theorem regAt_eq_none {a : RegIndex}
    (h : (0x09 ≤ a.toNat ∧ a.toNat < 0x10) ∨ (0x1B ≤ a.toNat ∧ a.toNat < 0x20) ∨ (0x49 ≤ a.toNat ∧ a.toNat < 0x50) ∨
      (0x7A ≤ a.toNat ∧ a.toNat < 0x80) ∨ (0x90 ≤ a.toNat ∧ a.toNat < 0x110) ∨ (0x11B ≤ a.toNat ∧ a.toNat < 0x120) ∨
      (0x149 ≤ a.toNat ∧ a.toNat < 0x150) ∨ 0x17A ≤ a.toNat) : regAt a = none := by
  by_cases hsh : 0x10 ≤ a.toNat ∧ a.toNat < 0x80
  · rw [regAt_of_shadowWindow hsh, confRegAt_eq_none (by omega), Option.map_none]
  by_cases hac : 0x110 ≤ a.toNat ∧ a.toNat < 0x180
  · rw [regAt_of_activeWindow hac, confRegAt_eq_none (by omega), Option.map_none]
  · rw [regAt_of_plain (by omega), plainRegAt_eq_none (by omega)]

/-- ID, STATUS, ERR_INFO, the monitors and the counters take no writes (20_memory.md R76). -/
theorem readOnly_of_plainRegAt {n : Nat} {r : Reg} (hn : n = 0 ∨ n = 2 ∨ n = 4 ∨ 0x80 ≤ n) (h : plainRegAt n = some r) :
    r.takesWrites = false := by
  unfold plainRegAt at h
  split at h <;> first | (obtain rfl := Option.some.inj h; rfl) | contradiction

/-- The active window takes no writes (20_memory.md R76). -/
theorem readOnly_of_activeWindow {a : RegIndex} {r : Reg} (ha : 0x110 ≤ a.toNat ∧ a.toNat < 0x180) (h : regAt a = some r) :
    r.takesWrites = false := by
  rw [regAt_of_activeWindow ha] at h
  obtain ⟨q, -, rfl⟩ := Option.map_eq_some_iff.1 h
  rfl

/-- A write of a word is ignored if no register there takes it. -/
theorem memWrite_of_readOnly {a : RegIndex} (h : ∀ r, regAt a = some r → r.takesWrites = false) (v : Word) (s : State) :
    memWrite a v s = s := by
  cases hr : regAt a with
  | none => exact memWrite_of_unmapped hr v s
  | some r => rw [memWrite_of_regAt hr, writeReg_of_readOnly (h r hr)]

/-- A read of an unmapped word returns 0 (20_memory.md R75). -/
theorem memRead_of_unmapped {a : RegIndex} (h : regAt a = none) (s : State) : memRead a s = 0 := by
  simp only [memRead, h]

/-- RD shows the word read and leaves the rest (40_host_operations.md R140). -/
theorem exec_rd (a : RegIndex) (v : Word) (s : State) :
    exec (.rd a v) s = .next (s.setOut { s.out with rdata := some (memRead a s) }) := rfl

/-- WR makes the write and nothing else (40_host_operations.md R141). -/
theorem exec_wr (a : RegIndex) (v : Word) (s : State) : exec (.wr a v) s = .next (memWrite a v s) := rfl

/-- Settles O9: a hole of the map has no register, and the registers of the read-only words take no writes. -/
theorem unmappedAndReadOnlyWordsIgnoreWrites : Obligations.UnmappedAndReadOnlyWordsIgnoreWrites := by
  unfold Obligations.UnmappedAndReadOnlyWordsIgnoreWrites
  intro a v s
  constructor
  · intro h
    have hnone : regAt a = none := regAt_eq_none (by omega)
    rw [exec_rd, exec_wr, memRead_of_unmapped hnone, memWrite_of_unmapped hnone]
    exact ⟨rfl, rfl⟩
  · intro h
    rw [exec_wr, memWrite_of_readOnly]
    intro r hr
    by_cases hac : 0x110 ≤ a.toNat ∧ a.toNat < 0x180
    · exact readOnly_of_activeWindow hac hr
    · rw [regAt_of_plain (by omega)] at hr
      exact readOnly_of_plainRegAt (by omega) hr

/-- A flag of ERR after the write-1-to-clear: as it was, unless written as 1 (20_memory.md R76). -/
theorem clearErr_getLsbD (v : Word) (s : State) {k : Nat} (hk : k < 7) :
    (clearErr v s).ctl.err.getLsbD k = (s.ctl.err.getLsbD k && !v.getLsbD k) := by
  simp [clearErr, hk]

/-- Settles O12: the word holds ERR, and its write clears flag by flag. -/
theorem wrErrClearsTheFlagsWrittenAsOne : Obligations.WrErrClearsTheFlagsWrittenAsOne := by
  unfold Obligations.WrErrClearsTheFlagsWrittenAsOne
  intro v s
  have herr : regAt (wordIndex 0x00C) = some .err := by decide
  exact ⟨_, exec_wr_of_regAt herr v s, rfl, fun k hk => clearErr_getLsbD v s hk⟩

end Sys2Proof.Machine

/-! ### The words of each format and their fields (30_encoding.md R101 to R112) -/

namespace Sys2Proof.Machine

/-- Each bit of a word is a field of one bit. -/
theorem ofBool_bitAt {w : Nat} (v : BitVec w) (n : Nat) : BitVec.ofBool (bitAt v n) = v.extractLsb' n 1 := by
  ext i hi
  simp [bitAt, Nat.lt_one_iff.1 hi]

theorem bitAt_ofBool (b : Bool) : bitAt (BitVec.ofBool b) 0 = b := by cases b <;> rfl

theorem bitAt_append_above {m n : Nat} (x : BitVec m) (y : BitVec n) (k : Nat) : bitAt (x ++ y) (n + k) = bitAt x k := by
  simp [bitAt, BitVec.getLsbD_append]

theorem bitAt_append_below {m n k : Nat} (x : BitVec m) (y : BitVec n) (h : k < n) : bitAt (x ++ y) k = bitAt y k := by
  simp [bitAt, BitVec.getLsbD_append, h]

theorem extractLsb'_append_above {m n : Nat} (x : BitVec m) (y : BitVec n) (k len : Nat) :
    (x ++ y).extractLsb' (n + k) len = x.extractLsb' k len := by
  rw [BitVec.extractLsb'_append_eq_of_le (Nat.le_add_right n k), Nat.add_sub_cancel_left]

theorem extractLsb'_append_middle {l m n : Nat} (x : BitVec l) (y : BitVec m) (z : BitVec n) :
    (x ++ y ++ z).extractLsb' n m = y :=
  (extractLsb'_append_above (x ++ y) z 0 m).trans BitVec.extractLsb'_append_eq_right

/-- BUS: the direction, the word index and the data of a word put together from them (R101). -/
theorem decodeBus_append (b : Bool) (a : RegIndex) (d : Word) :
    decodeBus (BitVec.ofBool b ++ a ++ d) = if b then .wr a d else .rd a d := by
  have hwrite : bitAt (BitVec.ofBool b ++ a ++ d : BitVec 42) 41 = b :=
    (bitAt_append_above _ d 9).trans ((bitAt_append_above _ a 0).trans (bitAt_ofBool b))
  have haddr : (BitVec.ofBool b ++ a ++ d : BitVec 42).extractLsb' 32 9 = a := extractLsb'_append_middle ..
  have hdata : (BitVec.ofBool b ++ a ++ d : BitVec 42).extractLsb' 0 32 = d := BitVec.extractLsb'_append_eq_right
  rw [decodeBus, hwrite, haddr, hdata]

/-- BUS: a word is its three fields in a row (R101). -/
theorem exists_eq_busWord (w : BitVec 42) : ∃ (b : Bool) (a : RegIndex) (d : Word), w = BitVec.ofBool b ++ a ++ d := by
  have hjoin : BitVec.ofBool (bitAt w 41) ++ w.extractLsb' 32 9 ++ w.extractLsb' 0 32 = w.extractLsb' 0 42 := by
    simp only [ofBool_bitAt, BitVec.extractLsb'_append_extractLsb'_eq_extractLsb']
  exact ⟨_, _, _, (hjoin.trans BitVec.extractLsb'_eq_self).symm⟩

/-- CMD: the opcode is the low byte (R102). -/
theorem cmdWord_opcode (op : BitVec 8) (ign : BitVec 24) : (cmdWord op ign).extractLsb' 0 8 = op :=
  BitVec.extractLsb'_append_eq_right

theorem cmdWord_ignored (op : BitVec 8) (ign : BitVec 24) : (cmdWord op ign).extractLsb' 8 24 = ign :=
  BitVec.extractLsb'_append_eq_left

theorem exists_eq_cmdWord (w : BitVec 32) : ∃ op ign, w = cmdWord op ign :=
  have hjoin : w.extractLsb' 8 24 ++ w.extractLsb' 0 8 = w.extractLsb' 0 32 :=
    BitVec.extractLsb'_append_extractLsb'_eq_extractLsb' rfl
  ⟨_, _, (hjoin.trans BitVec.extractLsb'_eq_self).symm⟩

/-- B2: the part common to all groups (R107). -/
theorem b2Word_gt (gt pty low : BitVec 5) (tp : Bool) : (b2Word gt tp pty low).extractLsb' 11 5 = gt :=
  (extractLsb'_append_above _ low 6 5).trans ((extractLsb'_append_above _ pty 1 5).trans BitVec.extractLsb'_append_eq_left)

theorem b2Word_tp (gt pty low : BitVec 5) (tp : Bool) : bitAt (b2Word gt tp pty low) 10 = tp :=
  (bitAt_append_above _ low 5).trans ((bitAt_append_above _ pty 0).trans
    ((bitAt_append_below gt (BitVec.ofBool tp) Nat.one_pos).trans (bitAt_ofBool tp)))

theorem b2Word_pty (gt pty low : BitVec 5) (tp : Bool) : (b2Word gt tp pty low).extractLsb' 5 5 = pty :=
  extractLsb'_append_middle ..

/-- B2: the low five bits are each group's own (R108 to R110). -/
theorem b2Word_low (gt pty low : BitVec 5) (tp : Bool) {k n : Nat} (h : k + n ≤ 5) :
    (b2Word gt tp pty low).extractLsb' k n = low.extractLsb' k n :=
  BitVec.extractLsb'_append_eq_of_add_le h

theorem b2Word_bitAt_low (gt pty low : BitVec 5) (tp : Bool) {k : Nat} (h : k < 5) :
    bitAt (b2Word gt tp pty low) k = bitAt low k :=
  bitAt_append_below _ _ h

theorem exists_eq_b2Word (w : BitVec 16) : ∃ gt tp pty low, w = b2Word gt tp pty low := by
  have hjoin : w.extractLsb' 11 5 ++ BitVec.ofBool (bitAt w 10) ++ w.extractLsb' 5 5 ++ w.extractLsb' 0 5 =
      w.extractLsb' 0 16 := by
    simp only [ofBool_bitAt, BitVec.extractLsb'_append_extractLsb'_eq_extractLsb']
  exact ⟨_, _, _, _, (hjoin.trans BitVec.extractLsb'_eq_self).symm⟩

/-- BLOCK: INFO and CHECK in a row (R103). -/
theorem decodeBlock_append (info : BitVec 16) (check : BitVec 10) : decodeBlock (info ++ check) = .block info check :=
  congrArg₂ Instr.block BitVec.extractLsb'_append_eq_left BitVec.extractLsb'_append_eq_right

theorem blockWord_fields (w : BlockWord) : w.extractLsb' 10 16 ++ w.extractLsb' 0 10 = w :=
  (BitVec.extractLsb'_append_extractLsb'_eq_extractLsb' rfl).trans BitVec.extractLsb'_eq_self

/-- GROUP: the four blocks of a word put together from them (R104). -/
theorem blocksOf_append (b1 b2 b3 b4 : BlockWord) : blocksOf (b1 ++ b2 ++ b3 ++ b4) = [b1, b2, b3, b4] := by
  have h1 : (b1 ++ b2 ++ b3 ++ b4 : GroupWord).extractLsb' 78 26 = b1 :=
    (extractLsb'_append_above _ b4 52 26).trans ((extractLsb'_append_above _ b3 26 26).trans BitVec.extractLsb'_append_eq_left)
  have h2 : (b1 ++ b2 ++ b3 ++ b4 : GroupWord).extractLsb' 52 26 = b2 :=
    (extractLsb'_append_above _ b4 26 26).trans (extractLsb'_append_middle ..)
  have h3 : (b1 ++ b2 ++ b3 ++ b4 : GroupWord).extractLsb' 26 26 = b3 := extractLsb'_append_middle ..
  have h4 : (b1 ++ b2 ++ b3 ++ b4 : GroupWord).extractLsb' 0 26 = b4 := BitVec.extractLsb'_append_eq_right
  rw [blocksOf, h1, h2, h3, h4]

/-- Reading a group word is reading its four blocks. -/
theorem decodeGroup_of_blocksOf {w : GroupWord} {b1 b2 b3 b4 : BlockWord} (h : blocksOf w = [b1, b2, b3, b4]) :
    decodeGroup w = .group b1 b2 b3 b4 := by
  obtain ⟨h1, h2, h3, h4, -⟩ : _ ∧ _ ∧ _ ∧ _ ∧ _ := by simpa only [blocksOf, List.cons.injEq] using h
  rw [decodeGroup, h1, h2, h3, h4]

theorem groupWord_fields (w : GroupWord) :
    w.extractLsb' 78 26 ++ w.extractLsb' 52 26 ++ w.extractLsb' 26 26 ++ w.extractLsb' 0 26 = w := by
  have hjoin : w.extractLsb' 78 26 ++ w.extractLsb' 52 26 ++ w.extractLsb' 26 26 ++ w.extractLsb' 0 26 =
      w.extractLsb' 0 104 := by
    simp only [BitVec.extractLsb'_append_extractLsb'_eq_extractLsb']
  exact hjoin.trans BitVec.extractLsb'_eq_self

/-! ### Decode and encode (30_encoding.md R113) -/

theorem encode_decodeBus (w : BitVec 42) : wellFormed (decodeBus w) = true ∧ encode (decodeBus w) = .bus w := by
  obtain ⟨b, a, d, rfl⟩ := exists_eq_busWord w
  rw [decodeBus_append]
  cases b <;> exact ⟨rfl, rfl⟩

/-- CMD: the opcode selects the row, the ignored bits are carried (R102). -/
theorem decodeCmd_cmdWord (op : BitVec 8) (ign : BitVec 24) : decodeCmd (cmdWord op ign) =
    if op = 0 then .nop ign else if op = 1 then .commit ign else if op = 2 then .start ign
    else if op = 3 then .stop ign else if op = 4 then .softReset ign else .cmdReserved op ign := by
  simp only [decodeCmd, cmdWord_opcode, cmdWord_ignored]

/-- The opcodes from 5 on are the reserved ones (R102). -/
theorem decodeCmd_reserved {op : BitVec 8} (h : 5 ≤ op.toNat) (ign : BitVec 24) :
    decodeCmd (cmdWord op ign) = .cmdReserved op ign := by
  have hne (c : BitVec 8) (hc : c.toNat < 5) : op ≠ c := by rintro rfl; omega
  rw [decodeCmd_cmdWord, if_neg (hne 0 (by decide)), if_neg (hne 1 (by decide)), if_neg (hne 2 (by decide)),
    if_neg (hne 3 (by decide)), if_neg (hne 4 (by decide))]

/-- Only the reserved row leaves its opcode open, and it takes none of the five named ones. -/
theorem encode_decodeCmd (w : BitVec 32) : wellFormed (decodeCmd w) = true ∧ encode (decodeCmd w) = .cmd w := by
  obtain ⟨op, ign, rfl⟩ := exists_eq_cmdWord w
  by_cases h : 5 ≤ op.toNat
  · rw [decodeCmd_reserved h]
    exact ⟨decide_eq_true h, rfl⟩
  · obtain rfl | rfl | rfl | rfl | rfl : op = 0 ∨ op = 1 ∨ op = 2 ∨ op = 3 ∨ op = 4 := by bv_omega
    all_goals exact ⟨congrArg wellFormed (decodeCmd_cmdWord ..), congrArg encode (decodeCmd_cmdWord ..)⟩

theorem encode_decodeSlot : ∀ w : BitVec 2, wellFormed (decodeSlot w) = true ∧ encode (decodeSlot w) = .slot w := by decide

/-- B2: GT selects the group, the low five bits hold its own fields (R107 to R110). -/
theorem decodeB2_b2Word (gt pty low : BitVec 5) (tp : Bool) : decodeB2 (b2Word gt tp pty low) =
    if gt = 0 then some (.group0A tp pty (bitAt low 4) (bitAt low 3) (bitAt low 2) (low.extractLsb' 0 2))
    else if gt = 4 then some (.group2A tp pty (bitAt low 4) (low.extractLsb' 0 4))
    else if gt = 8 ∧ low.extractLsb' 2 3 = 0#3 then some (.group4A tp pty (low.extractLsb' 0 2))
    else none := by
  simp only [decodeB2, b2Word_gt, b2Word_tp, b2Word_pty, b2Word_bitAt_low, b2Word_low, Nat.reduceAdd, Nat.reduceLT,
    Nat.reduceLeDiff]

/-- The low bits of group 0A are TA, MS, DI and the segment (R108). -/
theorem low0A_fields : ∀ (ta ms di : Bool) (seg : BitVec 2) (low : BitVec 5),
    low = BitVec.ofBool ta ++ BitVec.ofBool ms ++ BitVec.ofBool di ++ seg ↔
      bitAt low 4 = ta ∧ bitAt low 3 = ms ∧ bitAt low 2 = di ∧ low.extractLsb' 0 2 = seg := by decide

/-- The low bits of group 2A are the text flag and the segment (R109). -/
theorem low2A_fields : ∀ (ab : Bool) (seg : BitVec 4) (low : BitVec 5),
    low = BitVec.ofBool ab ++ seg ↔ bitAt low 4 = ab ∧ low.extractLsb' 0 4 = seg := by decide

/-- The low bits of group 4A are three spare bits, 0, and the upper bits of the day number (R110). -/
theorem low4A_fields : ∀ (mjd : BitVec 2) (low : BitVec 5),
    low = 0#3 ++ mjd ↔ low.extractLsb' 2 3 = 0#3 ∧ low.extractLsb' 0 2 = mjd := by decide

theorem encode_decodeB2 {w : BitVec 16} {i : Instr} (h : decodeB2 w = some i) : wellFormed i = true ∧ encode i = .b2 w := by
  obtain ⟨gt, tp, pty, low, rfl⟩ := exists_eq_b2Word w
  rw [decodeB2_b2Word] at h
  split_ifs at h with h0 h2 h4
  · obtain rfl := Option.some.inj h
    rw [h0, encode, ← (low0A_fields _ _ _ _ low).2 ⟨rfl, rfl, rfl, rfl⟩]
    exact ⟨rfl, rfl⟩
  · obtain rfl := Option.some.inj h
    rw [h2, encode, ← (low2A_fields _ _ low).2 ⟨rfl, rfl⟩]
    exact ⟨rfl, rfl⟩
  · obtain rfl := Option.some.inj h
    obtain ⟨hgt, hspare⟩ := h4
    rw [hgt, encode, ← (low4A_fields _ low).2 ⟨hspare, rfl⟩]
    exact ⟨rfl, rfl⟩

theorem decode_encode {i : Instr} (h : wellFormed i = true) : decode (encode i) = some i := by
  cases i with
  | rd a d => exact congrArg some (decodeBus_append false a d)
  | wr a d => exact congrArg some (decodeBus_append true a d)
  | nop ign | commit ign | start ign | stop ign | softReset ign => exact congrArg some (decodeCmd_cmdWord _ ign)
  | cmdReserved op ign => exact congrArg some (decodeCmd_reserved (of_decide_eq_true h) ign)
  | group0A tp pty ta ms di seg =>
    obtain ⟨hta, hms, hdi, hseg⟩ := (low0A_fields ta ms di seg _).1 rfl
    exact (decodeB2_b2Word ..).trans (by rw [if_pos rfl, hta, hms, hdi, hseg])
  | group2A tp pty ab seg =>
    obtain ⟨hab, hseg⟩ := (low2A_fields ab seg _).1 rfl
    exact (decodeB2_b2Word ..).trans (by rw [if_neg (by decide), if_pos rfl, hab, hseg])
  | group4A tp pty mjd =>
    obtain ⟨hspare, hmjd⟩ := (low4A_fields mjd _).1 rfl
    exact (decodeB2_b2Word ..).trans (by rw [if_neg (by decide), if_neg (by decide), if_pos ⟨rfl, hspare⟩, hmjd])
  | block info check => exact congrArg some (decodeBlock_append info check)
  | group b1 b2 b3 b4 => exact congrArg some (decodeGroup_of_blocksOf (blocksOf_append b1 b2 b3 b4))
  | _ => rfl

theorem encode_of_decode {r : Request} {i : Instr} (h : decode r = some i) : wellFormed i = true ∧ encode i = r := by
  cases r with
  | b2 w => exact encode_decodeB2 h
  | bus w =>
    obtain rfl := Option.some.inj h
    exact encode_decodeBus w
  | cmd w =>
    obtain rfl := Option.some.inj h
    exact encode_decodeCmd w
  | slot w =>
    obtain rfl := Option.some.inj h
    exact encode_decodeSlot w
  | block w =>
    obtain rfl := Option.some.inj h
    exact ⟨rfl, congrArg Request.block (blockWord_fields w)⟩
  | group w =>
    obtain rfl := Option.some.inj h
    exact ⟨rfl, congrArg Request.group (groupWord_fields w)⟩
  | event e =>
    obtain rfl := Option.some.inj h
    cases e <;> exact ⟨rfl, rfl⟩

/-- Settles O1: each word is its fields in a row, so building it and taking it apart undo each other, format by format. -/
theorem decodeAndEncodeAgree : Obligations.DecodeAndEncodeAgree := by
  unfold Obligations.DecodeAndEncodeAgree
  exact ⟨fun _ => decode_encode, fun _ _ => encode_of_decode⟩

/-- Settles O2: each word is the encoding of the instruction it stands for. -/
theorem sampleWordsDecode : Obligations.SampleWordsDecode := by
  unfold Obligations.SampleWordsDecode
  exact ⟨decode_encode (i := .wr 0x010 0x1234) rfl, decode_encode (i := .wr 0x001 1) rfl, decode_encode (i := .rd 0x110 0) rfl,
    decode_encode (i := .commit 1) rfl, decode_encode (i := .cmdReserved 0x80 0) rfl, decode_encode (i := .slot4A) rfl,
    decode_encode (i := .group0A true 10 true true true 0) rfl, decode_encode (i := .group2A true 10 true 1) rfl,
    decode_encode (i := .group4A true 10 1) rfl, decode_encode (i := .block 0x1234 0x06A) rfl⟩

end Sys2Proof.Machine

/-! ### Remainders and syndromes (41_group_encoder.md R170 to R174) -/

namespace Sys2Proof.Machine

/-- One step of the division: the next bit comes in, and the remainder is reduced when it had bit 9 (R170). -/
def remStep (b : Bool) (r : BitVec 11) : BitVec 11 := r.shiftConcat b ^^^ if r.getLsbD 9 then gpoly else 0#11

theorem shiftLeft_or_ofBool_eq_shiftConcat (b : Bool) (r : BitVec 11) :
    r <<< 1 ||| (BitVec.ofBool b).setWidth 11 = r.shiftConcat b := by
  ext i hi
  by_cases h : i = 0 <;> simp [BitVec.getElem_shiftConcat, BitVec.getLsbD_ofBool, BitVec.getLsbD_eq_getElem, h]

theorem remBits_cons (b : Bool) (bs : List Bool) (r : BitVec 11) : remBits (b :: bs) r = remBits bs (remStep b r) := by
  have htop : (r.shiftConcat b).getLsbD 10 = r.getLsbD 9 := by simp
  rw [remBits, shiftLeft_or_ofBool_eq_shiftConcat, htop, remStep]
  split
  · rfl
  · rw [BitVec.xor_zero]

theorem shiftConcat_xor (a b : Bool) (r q : BitVec 11) :
    (r ^^^ q).shiftConcat (xor a b) = r.shiftConcat a ^^^ q.shiftConcat b := by
  ext i hi
  by_cases h : i = 0 <;> simp [BitVec.getElem_shiftConcat, h]

/-- The bit that comes in and the reduction are each linear, so the step is. -/
theorem remStep_xor (a b : Bool) (r q : BitVec 11) : remStep (xor a b) (r ^^^ q) = remStep a r ^^^ remStep b q := by
  have hreduce (c d : Bool) : (if xor c d then gpoly else 0#11) = (if c then gpoly else 0#11) ^^^ if d then gpoly else 0#11 := by
    cases c <;> cases d <;> decide
  rw [remStep, remStep, remStep, shiftConcat_xor, BitVec.getLsbD_xor, hreduce]
  ac_rfl

theorem remBits_xor (f g : Nat → Bool) (l : List Nat) (r q : BitVec 11) :
    remBits (l.map fun n => xor (f n) (g n)) (r ^^^ q) = remBits (l.map f) r ^^^ remBits (l.map g) q := by
  induction l generalizing r q with
  | nil => rfl
  | cons n l ih => simp only [List.map_cons, remBits_cons, remStep_xor, ih]

/-- rem is linear (R171). -/
theorem polyRem_xor {w : Nat} (a b : BitVec w) : polyRem (a ^^^ b) = polyRem a ^^^ polyRem b := by
  have hbits : bitsMsb (a ^^^ b) = (List.range w).reverse.map fun n => xor (a.getLsbD n) (b.getLsbD n) :=
    List.map_congr_left fun n _ => BitVec.getLsbD_xor
  rw [polyRem, hbits, show (0 : BitVec 11) = 0 ^^^ 0 from rfl, remBits_xor, BitVec.setWidth_xor]
  rfl

/-- The number that stands before the bits `l`, most significant first, when `n` came before them. -/
def numberOfBits (l : List Bool) (n : Nat) : Nat := l.foldl (fun m b => 2 * m + b.toNat) n

theorem le_numberOfBits (l : List Bool) (n : Nat) : n ≤ numberOfBits l n := by
  induction l generalizing n with
  | nil => exact le_rfl
  | cons b l ih => exact (by omega : n ≤ 2 * n + b.toNat).trans (ih _)

/-- The low `k` bits of a word, most significant first. -/
theorem numberOfBits_low {w : Nat} (v : BitVec w) (k n : Nat) :
    numberOfBits ((List.range k).reverse.map v.getLsbD) n = 2 ^ k * n + v.toNat % 2 ^ k := by
  induction k generalizing n with
  | zero => simp [numberOfBits, Nat.mod_one]
  | succ k ih =>
    have hcons : numberOfBits ((List.range (k + 1)).reverse.map v.getLsbD) n =
        numberOfBits ((List.range k).reverse.map v.getLsbD) (2 * n + (v.getLsbD k).toNat) := by
      rw [List.range_succ, List.reverse_concat]; rfl
    rw [hcons, ih, Nat.mod_pow_succ, BitVec.getLsbD, Nat.toNat_testBit]
    ring

theorem numberOfBits_bitsMsb {w : Nat} (v : BitVec w) : numberOfBits (bitsMsb v) 0 = v.toNat := by
  rw [bitsMsb, numberOfBits_low, Nat.mod_eq_of_lt v.isLt, Nat.mul_zero, Nat.zero_add]

/-- A step that does not reach bit 10 only takes the bit in. -/
theorem remStep_toNat (b : Bool) {r : BitVec 11} (h : r.toNat < 2 ^ 9) : (remStep b r).toNat = 2 * r.toNat + b.toNat := by
  have hbit : r.getLsbD 9 = false := Nat.testBit_lt_two_pow h
  rw [remStep, hbit, if_neg Bool.false_ne_true, BitVec.xor_zero, BitVec.toNat_shiftConcat_eq_of_lt (k := 9) (by decide) h,
    Nat.mul_comm]

/-- Bits whose number stays below 2^10 are never reduced. -/
theorem remBits_toNat (l : List Bool) (r : BitVec 11) (h : numberOfBits l r.toNat < 2 ^ 10) :
    (remBits l r).toNat = numberOfBits l r.toNat := by
  induction l generalizing r with
  | nil => rfl
  | cons b l ih =>
    have hle : 2 * r.toNat + b.toNat < 2 ^ 10 := (le_numberOfBits l _).trans_lt h
    have hstep : (remStep b r).toNat = 2 * r.toNat + b.toNat := remStep_toNat b (by omega)
    rw [remBits_cons, ih _ (by rwa [hstep]), hstep]
    rfl

/-- rem leaves words below 0x400 alone (R171). -/
theorem polyRem_toNat_of_lt {w : Nat} {v : BitVec w} (h : v.toNat < 2 ^ 10) : (polyRem v).toNat = v.toNat := by
  have hbits := numberOfBits_bitsMsb v
  rw [polyRem, BitVec.toNat_setWidth, remBits_toNat _ _ (hbits.trans_lt h)]
  exact (congrArg (· % 2 ^ 10) hbits).trans (Nat.mod_eq_of_lt h)

/-- The syndrome of any block is the checkword of its information, offset word 0, plus the check it carries (R172, R174). -/
theorem syndrome_append (info : BitVec 16) (check : BitVec 10) : syndrome (info ++ check) = crc10 info ^^^ check := by
  have hsplit : info ++ check = (info ++ 0#10) ^^^ (0#16 ++ check) := by
    rw [BitVec.xor_append, BitVec.xor_zero, BitVec.zero_xor]
  have hcheck : polyRem (0#16 ++ check) = check := by
    have hnum : (0#16 ++ check).toNat = check.toNat := by rw [BitVec.toNat_append]; simp
    exact BitVec.eq_of_toNat_eq ((polyRem_toNat_of_lt (hnum ▸ check.isLt)).trans hnum)
  rw [syndrome, hsplit, polyRem_xor, hcheck, crc10]

/-- The syndrome of a block with a checkword is the offset word in it (R173, R174). -/
theorem syndrome_block26 (m : BitVec 16) (off : BitVec 10) : syndrome (block26 m off) = off := by
  rw [block26, syndrome_append, checkword, ← BitVec.xor_assoc, BitVec.xor_self, BitVec.zero_xor]

/-- The rows BLOCK and GROUP show syndromes; they change nothing (30_encoding.md R113 (5)). -/
theorem exec_block (info : BitVec 16) (check : BitVec 10) (s : State) : exec (.block info check) s =
    .next (s.setOut { s.out with engine := .syndromes [syndrome (info ++ check)] }) := rfl

theorem exec_group (b1 b2 b3 b4 : BlockWord) (s : State) : exec (.group b1 b2 b3 b4) s =
    .next (s.setOut { s.out with engine := .syndromes ([b1, b2, b3, b4].map syndrome) }) := rfl

/-- Settles O41: the two rows show syndromes and change nothing else; a checkword cancels all but its offset word. -/
theorem blockAndGroupRowsShowSyndromes : Obligations.BlockAndGroupRowsShowSyndromes := by
  unfold Obligations.BlockAndGroupRowsShowSyndromes
  refine ⟨fun m off s => ?_, fun info check s => ?_, fun b1 b2 b3 b4 s => ?_⟩
  · rw [exec_block, ← block26, syndrome_block26]
  · rw [exec_block, syndrome_append]
  · rw [exec_group, blocksOf_append]

end Sys2Proof.Machine

/-! ### The output word (30_encoding.md R115, R116) -/

namespace Sys2Proof.Machine

/-- A magnitude with its top bit at `e` moved up so that this bit stands at 23. -/
theorem significand_range {m e : Nat} (hlow : 2 ^ e ≤ m) (hhigh : m < 2 ^ (e + 1)) (he : e ≤ 23) :
    2 ^ 23 ≤ m * 2 ^ (23 - e) ∧ m * 2 ^ (23 - e) < 2 ^ 24 := by
  have h23 : 2 ^ e * 2 ^ (23 - e) = 2 ^ 23 := by rw [← Nat.pow_add, Nat.add_sub_cancel' he]
  have h24 : 2 ^ (e + 1) * 2 ^ (23 - e) = 2 ^ 24 := by rw [Nat.pow_succ', Nat.mul_assoc, h23]; rfl
  exact ⟨h23 ▸ Nat.mul_le_mul_right _ hlow, h24 ▸ Nat.mul_lt_mul_of_pos_right hhigh (Nat.two_pow_pos _)⟩

/-- The three fields of the word do not overlap, for a sign bit and a magnitude of at most 24 bits. -/
theorem f32Word_toNat {sg m : Nat} (hsg : sg ≤ 1) (hm : Nat.log2 m ≤ 23) : (f32Word sg m).toNat =
    sg * 2 ^ 31 + (104 + Nat.log2 m) * 2 ^ 23 + m * 2 ^ (23 - Nat.log2 m) % 2 ^ 23 := by
  have hfrac : m * 2 ^ (23 - Nat.log2 m) % 2 ^ 23 < 2 ^ 23 := Nat.mod_lt _ (Nat.two_pow_pos 23)
  rw [f32Word, BitVec.toNat_ofNat]
  exact Nat.mod_eq_of_lt (by omega)

/-- f32_of_q of a sample that is not 0, field by field. -/
theorem f32OfQ_toNat {v : Int} (hv : v ≠ 0) (hlog : Nat.log2 v.natAbs ≤ 23) : (f32OfQ v).toNat =
    (if v < 0 then 2 ^ 31 else 0) + (104 + Nat.log2 v.natAbs) * 2 ^ 23 +
      v.natAbs * 2 ^ (23 - Nat.log2 v.natAbs) % 2 ^ 23 := by
  rw [f32OfQ, if_neg hv, f32Word_toNat (by split <;> decide) hlog]
  split <;> simp

theorem fileWord_zero (fs : FileScale) : fileWord fs 0 = 0 := if_pos rfl

/-- The default FILE_SCALE is f32_of_q (00_scope.md R8). -/
theorem fileWord_unit (v : Int) : fileWord .unit v = f32OfQ v := by
  by_cases hv : v = 0
  · rw [hv, fileWord_zero]; rfl
  · exact if_neg hv

/-- Settles O57: the exponent is the place of the magnitude's top bit, the fraction what is left below it. -/
theorem outputWordIsExact : Obligations.OutputWordIsExact := by
  unfold Obligations.OutputWordIsExact
  refine ⟨rfl, fileWord_zero, fileWord_unit, fun v hv hlow hhigh => ?_⟩
  have hm : v.natAbs ≠ 0 := Int.natAbs_ne_zero.2 hv
  have htop : 2 ^ Nat.log2 v.natAbs ≤ v.natAbs := Nat.log2_self_le hm
  have hbound : v.natAbs < 2 ^ (Nat.log2 v.natAbs + 1) := Nat.lt_log2_self
  have hlog : Nat.log2 v.natAbs ≤ 23 := Nat.lt_succ_iff.1 ((Nat.log2_lt hm).2 (by omega))
  obtain ⟨h23, h24⟩ := significand_range htop hbound hlog
  exact ⟨Nat.log2 v.natAbs, v.natAbs * 2 ^ (23 - Nat.log2 v.natAbs) % 2 ^ 23, hlog, htop, hbound,
    Nat.mod_lt _ (Nat.two_pow_pos 23), by omega, f32OfQ_toNat hv hlog⟩

end Sys2Proof.Machine

/-! ### Information words and their fields (30_encoding.md R107 to R110) -/

namespace Sys2Proof.Machine

/-- The word holds the number `x`, all of it at bit `k` and above. -/
def Holds (w : BitVec 16) (k x : Nat) : Prop := w.toNat = x ∧ 2 ^ k ∣ x

/-- A field at bit `k` stays below the bit where it ends. -/
theorem two_pow_mul_toNat_lt {n k j : Nat} (f : BitVec n) (h : k + n ≤ j) : 2 ^ k * f.toNat < 2 ^ j :=
  calc 2 ^ k * f.toNat < 2 ^ k * 2 ^ n := Nat.mul_lt_mul_of_pos_left f.isLt (Nat.two_pow_pos k)
    _ = 2 ^ (k + n) := (Nat.pow_add ..).symm
    _ ≤ 2 ^ j := Nat.pow_le_pow_right (by decide) h

theorem holds_field {n : Nat} (f : BitVec n) (k : Nat) (h : k + n ≤ 16) :
    Holds (f.setWidth 16 <<< k) k (2 ^ k * f.toNat) := by
  refine ⟨?_, Nat.dvd_mul_right ..⟩
  rw [BitVec.toNat_shiftLeft, BitVec.toNat_setWidth_of_le (by omega), Nat.shiftLeft_eq, Nat.mul_comm,
    Nat.mod_eq_of_lt (two_pow_mul_toNat_lt f h)]

/-- What stands below all that is there adds its value. -/
theorem Holds.toNat_or {w f : BitVec 16} {j x : Nat} (hw : Holds w j x) (hf : f.toNat < 2 ^ j) :
    (w ||| f).toNat = x + f.toNat := by
  obtain ⟨rfl, a, hx⟩ := hw
  rw [BitVec.toNat_or, hx, Nat.two_pow_add_eq_or_of_lt hf]

/-- The last field, in the low bits. -/
theorem Holds.or_low {w : BitVec 16} {j x n : Nat} (hw : Holds w j x) (f : BitVec n) (h : n ≤ j) (hfit : n ≤ 16) :
    (w ||| f.setWidth 16).toNat = x + f.toNat := by
  have hlow : (f.setWidth 16).toNat = f.toNat := BitVec.toNat_setWidth_of_le hfit
  rw [hw.toNat_or (hlow ▸ f.isLt.trans_le (Nat.pow_le_pow_right (by decide) h)), hlow]

/-- A field at bit `k`, below all that is there, adds 2^k times its value. -/
theorem Holds.or_field {w : BitVec 16} {j x n : Nat} (hw : Holds w j x) (f : BitVec n) (k : Nat) (h : k + n ≤ j)
    (hfit : k + n ≤ 16) : Holds (w ||| f.setWidth 16 <<< k) k (x + 2 ^ k * f.toNat) := by
  obtain ⟨hf, hdvd⟩ := holds_field f k hfit
  refine ⟨?_, Nat.dvd_add ((Nat.pow_dvd_pow 2 (by omega)).trans hw.2) hdvd⟩
  rw [hw.toNat_or (hf ▸ two_pow_mul_toNat_lt f h), hf]

/-- HDR, field by field (R107): the group type in bits 15 to 12, TP in bit 10, PTY in bits 9 to 5. -/
theorem blockTwoHeader_holds {gt : Nat} (hgt : gt < 16) (st : Station) :
    Holds (blockTwoHeader gt st) 5 (4096 * gt + 1024 * st.tp.toNat + 32 * st.pty.toNat) := by
  have htype : Holds (BitVec.ofNat 16 gt <<< 12) 12 (4096 * gt) := by
    have h := holds_field (BitVec.ofNat 4 gt) 12 (by decide)
    rwa [BitVec.setWidth_ofNat_of_le_of_lt (by decide) hgt, BitVec.toNat_ofNat, Nat.mod_eq_of_lt hgt] at h
  have hword := (htype.or_field (BitVec.ofBool st.tp) 10 (by decide) (by decide)).or_field st.pty 5 (by decide) (by decide)
  rwa [BitVec.toNat_ofBool] at hword

/-- Two codes in one word: the first is the high byte (R108, R109). -/
theorem pairWord_toNat (x y : Byte) : (pairWord x y).toNat = 256 * x.toNat + y.toNat := by
  rw [pairWord, BitVec.toNat_append, ← Nat.shiftLeft_add_eq_or_of_lt y.isLt, Nat.shiftLeft_eq, Nat.mul_comm]

/-- Block 2 of group 0A (R108). -/
theorem words0A_b2_toNat (st : Station) (seg : BitVec 2) (a : Nat) : (words0A st seg a).b2.toNat =
    1024 * st.tp.toNat + 32 * st.pty.toNat + 16 * st.ta.toNat + 8 * st.ms.toNat +
      4 * (st.di (3 - seg.toNat)).toNat + seg.toNat := by
  have hta := (blockTwoHeader_holds (gt := 0) (by decide) st).or_field (BitVec.ofBool st.ta) 4 (by decide) (by decide)
  have hms := hta.or_field (BitVec.ofBool st.ms) 3 (by decide) (by decide)
  have hdi := hms.or_field (BitVec.ofBool (st.di (3 - seg.toNat))) 2 (by decide) (by decide)
  have hseg := hdi.or_low seg le_rfl (by decide)
  rw [BitVec.toNat_ofBool, BitVec.toNat_ofBool, BitVec.toNat_ofBool, Nat.mul_zero, Nat.zero_add] at hseg
  exact hseg

/-- Block 2 of group 2A (R109). -/
theorem words2A_b2_toNat (st : Station) (ab : Bool) (i : BitVec 4) : (words2A st ab i).b2.toNat =
    8192 + 1024 * st.tp.toNat + 32 * st.pty.toNat + 16 * ab.toNat + i.toNat := by
  have hab := (blockTwoHeader_holds (gt := 2) (by decide) st).or_field (BitVec.ofBool ab) 4 (by decide) (by decide)
  have hseg := hab.or_low i le_rfl (by decide)
  rwa [BitVec.toNat_ofBool] at hseg

/-- Block 2 of group 4A: the day number's upper bits below the header (R110). -/
theorem words4A_b2_toNat (st : Station) : (words4A st).b2.toNat =
    16384 + 1024 * st.tp.toNat + 32 * st.pty.toNat + st.ctMjd.toNat / 2 ^ 15 := by
  have hmjd := (blockTwoHeader_holds (gt := 4) (by decide) st).or_low (st.ctMjd.extractLsb' 15 2) (by decide) (by decide)
  rw [BitVec.extractLsb'_toNat, Nat.shiftRight_eq_div_pow, Nat.mod_eq_of_lt (by omega)] at hmjd
  exact hmjd

/-- Block 3 of group 4A: the day number's lower bits and the top bit of the hour (R110). -/
theorem words4A_b3_toNat (st : Station) : (words4A st).b3.toNat =
    2 * (st.ctMjd.toNat % 2 ^ 15) + st.hour.toNat / 16 := by
  have hhour := (holds_field (st.ctMjd.extractLsb' 0 15) 1 (by decide)).or_field (BitVec.ofBool (st.hour.getLsbD 4)) 0
    (by decide) (by decide)
  have htop : (st.hour.getLsbD 4).toNat = st.hour.toNat / 16 := by
    rw [BitVec.getLsbD, Nat.toNat_testBit]; omega
  rw [BitVec.toNat_ofBool, htop, BitVec.extractLsb'_toNat, Nat.shiftRight_zero, Nat.pow_zero, Nat.one_mul] at hhour
  exact hhour.1

/-- Block 4 of group 4A: the rest of the hour, the minute, and the offset's sign and magnitude (R110). -/
theorem words4A_b4_toNat (st : Station) : (words4A st).b4.toNat =
    4096 * (st.hour.toNat % 16) + 64 * st.minute.toNat + 32 * st.offSign.toNat + st.offMag.toNat := by
  have hminute := (holds_field (st.hour.extractLsb' 0 4) 12 (by decide)).or_field st.minute 6 (by decide) (by decide)
  have hsign := hminute.or_field (BitVec.ofBool st.offSign) 5 (by decide) (by decide)
  have hmag := hsign.or_low st.offMag le_rfl (by decide)
  rwa [BitVec.toNat_ofBool, BitVec.extractLsb'_toNat, Nat.shiftRight_zero] at hmag

/-! ### The views of the station half (10_state.md R32 to R34, R43, 20_memory.md R74) -/

theorem Station.pty_toNat (st : Station) : st.pty.toNat = st.flags.toNat % 2 ^ 5 :=
  BitVec.extractLsb'_toNat 0 5 st.flags

/-- Byte `k` of a word, the first the low one. -/
theorem wordByte_toNat (w : Word) (k : Nat) : (wordByte w k).toNat = w.toNat / 2 ^ (8 * k) % 2 ^ 8 := by
  rw [wordByte, BitVec.extractLsb'_toNat, Nat.shiftRight_eq_div_pow]

theorem Station.psp_toNat (st : Station) (i : Fin 8) : (st.psp i).toNat =
    if i.val < min st.psLen.toNat 8 then (st.ps[i.val / 4]'(by omega)).toNat / 2 ^ (8 * (i.val % 4)) % 2 ^ 8 else 0x20 := by
  unfold Station.psp Station.psChar
  split
  · exact wordByte_toNat ..
  · rfl

theorem Station.rtp_toNat (st : Station) (i : Fin 64) : (st.rtp i).toNat =
    if i.val < st.rtLen.toNat then (st.rt[i.val / 4]'(by omega)).toNat / 2 ^ (8 * (i.val % 4)) % 2 ^ 8 else 0x20 := by
  unfold Station.rtp Station.rtChar
  split
  · exact wordByte_toNat ..
  · rfl

/-- CL holds 1 to 16 pairs, whatever the count. -/
theorem nPairs_range (st : Station) : 2 * st.nPairs = st.codeList.length ∧ 1 ≤ st.nPairs ∧ st.nPairs ≤ 16 := by
  have hcount := st.afCount.isLt
  unfold Station.nPairs
  rw [codeList_length]
  split <;> omega

/-! ### The builders' rows (41_group_encoder.md R183 to R186) -/

/-- AF_IDX after the guard (R183). -/
def afStart (s : State) : Nat := if s.ac.station.nPairs ≤ s.cur.afIdx.toNat then 0 else s.cur.afIdx.toNat

theorem afStart_lt (s : State) : afStart s < s.ac.station.nPairs := by
  obtain ⟨-, hpos, -⟩ := nPairs_range s.ac.station
  unfold afStart
  split <;> omega

theorem afGuard_eq (s : State) : afGuard s = s.setCur { s.cur with afIdx := BitVec.ofNat 4 (afStart s) } := by
  unfold afGuard afStart
  split
  · rfl
  · rw [BitVec.ofNat_toNat, BitVec.setWidth_eq]; rfl

theorem afGuard_afIdx (s : State) : (afGuard s).cur.afIdx.toNat = afStart s := by
  have hlt := afStart_lt s
  obtain ⟨-, -, hle⟩ := nPairs_range s.ac.station
  rw [afGuard_eq]
  exact Nat.mod_eq_of_lt (by omega)

/-- build_0A() (R184): the group of the segment and of the guarded pair, and the cursor after it. -/
theorem build0A_eq (s : State) : build0A s = ((words0A s.ac.station s.cur.psIdx (afStart s)).word,
    s.setCur { s.cur with
      psIdx := s.cur.psIdx + 1, afIdx := BitVec.ofNat 4 ((afStart s + 1) % s.ac.station.nPairs) }) := by
  rw [build0A, afGuard_afIdx, afGuard_eq]
  rfl

theorem exec_group0A (tp : Bool) (pty : BitVec 5) (ta ms di : Bool) (seg : BitVec 2) (s : State) :
    exec (.group0A tp pty ta ms di seg) s = .next (report (.group (build0A s).1) (build0A s).2) := rfl

theorem exec_group2A (tp : Bool) (pty : BitVec 5) (ab : Bool) (seg : BitVec 4) (s : State) :
    exec (.group2A tp pty ab seg) s = .next (report (.group (build2A s).1) (build2A s).2) := rfl

theorem exec_group4A (tp : Bool) (pty : BitVec 5) (mjdHi : BitVec 2) (s : State) :
    exec (.group4A tp pty mjdHi) s = .next (report (.group (words4A s.ac.station).word) s) := rfl

/-- Settles O37: field by field in block 2, the guarded pair in block 3, the segment's characters in block 4. -/
theorem group0ARowBuildsTheGroup : Obligations.Group0ARowBuildsTheGroup := by
  unfold Obligations.Group0ARowBuildsTheGroup
  intro tp pty ta ms di seg s a ha
  obtain rfl : a = afStart s := ha
  have hpair := afStart_lt s
  obtain ⟨hlength, -, hpairs⟩ := nPairs_range s.ac.station
  have hnext := Nat.mod_lt (afStart s + 1) (show 0 < s.ac.station.nPairs by omega)
  have hseg := s.cur.psIdx.isLt
  rw [exec_group0A, build0A_eq]
  refine ⟨_, (words0A s.ac.station s.cur.psIdx (afStart s)).b2, (words0A s.ac.station s.cur.psIdx (afStart s)).b3,
    (words0A s.ac.station s.cur.psIdx (afStart s)).b4, rfl, rfl, words0A_b2_toNat .., by omega, pairWord_toNat .., ?_,
    BitVec.toNat_add .., Nat.mod_eq_of_lt (by omega), rfl, rfl, rfl, s.ac.station.pty_toNat, rfl, rfl, rfl, fun _ _ => rfl,
    s.ac.station.psp_toNat⟩
  have hchar (k : Nat) (hk : k < 2) : Fin.ofNat 8 (2 * s.cur.psIdx.toNat + k) = ⟨2 * s.cur.psIdx.toNat + k, by omega⟩ :=
    Fin.ext (Nat.mod_eq_of_lt (by omega))
  rw [hchar 1 (by decide), show Fin.ofNat 8 (2 * s.cur.psIdx.toNat) = _ from hchar 0 (by decide)]
  exact pairWord_toNat ..

/-- Settles O38: field by field in block 2, the segment's four characters in blocks 3 and 4. -/
theorem group2ARowBuildsTheGroup : Obligations.Group2ARowBuildsTheGroup := by
  unfold Obligations.Group2ARowBuildsTheGroup
  intro tp pty ab seg s
  have hseg := s.cur.rtIdx.isLt
  have hchar (k : Nat) (hk : k < 4) : Fin.ofNat 64 (4 * s.cur.rtIdx.toNat + k) = ⟨4 * s.cur.rtIdx.toNat + k, by omega⟩ :=
    Fin.ext (Nat.mod_eq_of_lt (by omega))
  rw [exec_group2A]
  refine ⟨_, (words2A s.ac.station s.flags.rtAb s.cur.rtIdx).b2, (words2A s.ac.station s.flags.rtAb s.cur.rtIdx).b3,
    (words2A s.ac.station s.flags.rtAb s.cur.rtIdx).b4, rfl, rfl, words2A_b2_toNat .., ?_, ?_, BitVec.toNat_add .., rfl, rfl,
    rfl, rfl, s.ac.station.pty_toNat, rfl, s.ac.station.rtp_toNat⟩
  · rw [hchar 1 (by decide), show Fin.ofNat 64 (4 * s.cur.rtIdx.toNat) = _ from hchar 0 (by decide)]
    exact pairWord_toNat ..
  · rw [hchar 2 (by decide), hchar 3 (by decide)]
    exact pairWord_toNat ..

/-- Settles O39: field by field in blocks 2 to 4; the builder leaves the state alone. -/
theorem group4ARowBuildsTheGroup : Obligations.Group4ARowBuildsTheGroup := by
  unfold Obligations.Group4ARowBuildsTheGroup
  intro tp pty mjdHi s
  rw [exec_group4A]
  exact ⟨_, _, _, _, rfl, rfl, words4A_b2_toNat _, words4A_b3_toNat _, words4A_b4_toNat _⟩

end Sys2Proof.Machine

/-! ### The checks of COMMIT (40_host_operations.md R143) -/

namespace Sys2Proof.Machine

theorem piLegal_eq_false_iff (par : Params) (c : Settings) : piLegal par.piReserved c.station.pi = false ↔ PiBad par c := by
  rw [← Bool.not_eq_true, piLegal_iff, not_not]

/-- With a count that names registers only, the check of the AF entries is the table's (10_state.md R35). -/
theorem afInRange_eq_false_iff {c : Settings} (hcount : ¬AfCountBad c) : afInRange c.station = false ↔ AfBad c := by
  rw [← Bool.not_eq_true, not_iff_comm]
  refine ⟨fun h => List.all_eq_true.2 fun i hi => ?_, not_afBad_of_afInRange⟩
  have hused : i < c.station.afCount.toNat := List.mem_range.1 hi
  have hreg : i < 25 := by unfold AfCountBad at hcount; omega
  by_contra hout
  refine h ⟨⟨i, hreg⟩, hused, ?_⟩
  simp only [Station.afEntry, hreg, dite_true, decide_eq_true_eq] at hout
  simp only [Fin.getElem_fin]
  omega

theorem schedLegal_of_not_schedBad {c : Settings} (h : ¬SchedBad c) : schedLegal c.station = true := by
  simp only [SchedBad, not_or, not_exists, not_and, not_forall] at h
  obtain ⟨hpos, hmax, hno3, i, hi, hne2⟩ := h
  simp only [schedLegal, Bool.and_eq_true, decide_eq_true_eq, List.all_eq_true, List.any_eq_true]
  refine ⟨⟨⟨hpos, not_lt.1 hmax⟩, fun x hx => ?_⟩, _, mem_slotsInUse.2 ⟨i, hi, rfl⟩, hne2⟩
  obtain ⟨j, hj, rfl⟩ := mem_slotsInUse.1 hx
  exact hno3 j hj

theorem schedLegal_eq_false_iff (c : Settings) : schedLegal c.station = false ↔ SchedBad c := by
  rw [← Bool.not_eq_true, not_iff_comm]
  exact ⟨schedLegal_of_not_schedBad, not_schedBad_of_schedLegal⟩

theorem ctLegal_eq_false_iff (c : Settings) : ctLegal c.station = false ↔ CtBad c := by
  unfold CtBad ctLegal
  cases c.station.ctValid
  · simp
  · simp; omega

theorem audioLegal_of_not_audioBad {c : Settings} (h : ¬AudioBad c) : audioLegal c.audio = true := by
  unfold AudioBad at h
  simp only [audioLegal, q15Positive, Bool.and_eq_true, decide_eq_true_eq]
  unfold rdsLevelMax
  omega

theorem audioLegal_eq_false_iff (c : Settings) : audioLegal c.audio = false ↔ AudioBad c := by
  rw [← Bool.not_eq_true, not_iff_comm]
  exact ⟨audioLegal_of_not_audioBad, not_audioBad_of_audioLegal⟩

open Classical in
/-- validate(SH) over the checks in the table's own words, in its order (R143). -/
theorem validate_eq (par : Params) (c : Settings) : validate par c =
    if PiBad par c then 1 else if TextBad c then 2 else if AfCountBad c then 4 else if AfBad c then 3
    else if SchedBad c then 5 else if CtBad c then 6 else if AudioBad c then 7 else 0 := by
  refine if_congr (piLegal_eq_false_iff par c) rfl (if_congr Iff.rfl rfl ?_)
  refine ite_congr rfl (fun _ => rfl) fun hcount => ?_
  exact if_congr (afInRange_eq_false_iff hcount) rfl (if_congr (schedLegal_eq_false_iff c) rfl
    (if_congr (ctLegal_eq_false_iff c) rfl (if_congr (audioLegal_eq_false_iff c) rfl rfl)))

/-- Settles O15: each clause selects its own branch of the chain of checks. -/
theorem validateNamesTheFirstFailingCheck : Obligations.ValidateNamesTheFirstFailingCheck := by
  unfold Obligations.ValidateNamesTheFirstFailingCheck
  intro par c
  rw [validate_eq]
  refine ⟨fun hpi => if_pos hpi, ?_, ?_, ?_, ?_, ?_, ?_, ?_⟩
  case refine_7 =>
    rintro hpi ⟨htext, hcount, haf, hsched, hct⟩ haudio
    simp only [hpi, htext, hcount, haf, hsched, hct, haudio, if_false]
  all_goals
    intros
    simp only [*, if_true, if_false]

end Sys2Proof.Machine

/-! ### COMMIT (40_host_operations.md R142) -/

namespace Sys2Proof.Machine

theorem exec_commit (g : BitVec 24) (s : State) : exec (.commit g) s = .next (commit s) := rfl

/-- The flag of each error class, as a mask of ERR (60_exceptions.md R361). -/
def ErrorClass.mask : ErrorClass → BitVec 7
  | .configuration => 0x01
  | .sink => 0x02
  | .rateConversion => 0x04
  | .startBusy => 0x08
  | .badCommand => 0x10

/-- `raise` ors the class's flag into ERR, writes the code and leaves the rest (R362). -/
theorem raise_eq_or_mask (c : ErrorClass) (code : BitVec 8) (s : State) :
    raise c code s = s.setCtl { s.ctl with err := s.ctl.err ||| c.mask, errInfo := code } := by
  cases c <;> rfl

theorem commit_of_invalid {s : State} (h : validate s.par s.sh ≠ 0) :
    commit s = raise .configuration (validate s.par s.sh) s := if_neg h

theorem commit_idle {s : State} (h : validate s.par s.sh = 0) (hs : s.pipe.stream = .idle) :
    commit s = ((s.setPe s.sh).setAc s.sh).setFlags ⟨false, false, true, nextRtAb (snapshot s)⟩ := by
  rw [← adopt_snapshot_eq]
  simp only [commit, h, hs, if_true]

theorem commit_streaming {s : State} (h : validate s.par s.sh = 0) (hs : s.pipe.stream = .streaming) :
    commit s = snapshot s := by
  simp only [commit, h, hs, if_true]

/-- RT_AB after a station adoption, character by character (20_memory.md R82). -/
theorem nextRtAb_flipsOnNewText (s : State) :
    FlipsOnNewText s.pe.station s.ac.station s.flags.rtAb (nextRtAb s) := by
  constructor
  · intro hsame
    exact if_pos ((paddedText_eq_iff _ _).2 hsame)
  · rintro ⟨i, hi⟩
    exact if_neg fun htext => hi ((paddedText_eq_iff _ _).1 htext i)

/-- Settles O16: the code of `validate` is not 0, so COMMIT raises it and does nothing else. -/
theorem commitRefusedChangesOnlyTheError : Obligations.CommitRefusedChangesOnlyTheError := by
  unfold Obligations.CommitRefusedChangesOnlyTheError
  intro g s h
  rw [exec_commit, commit_of_invalid h, raise_eq_or_mask]
  rfl

/-- Settles O17: the snapshot is adopted in the same step, both halves; RT_AB compares it with the old active copy. -/
theorem commitInIdleAdoptsAtOnce : Obligations.CommitInIdleAdoptsAtOnce := by
  unfold Obligations.CommitInIdleAdoptsAtOnce
  intro g s h hs
  rw [exec_commit, commit_idle h hs]
  exact ⟨_, rfl, rfl, rfl, rfl, rfl, rfl, nextRtAb_flipsOnNewText (snapshot s), rfl⟩

/-- Settles O18: while STREAMING the snapshot waits. -/
theorem commitWhileStreamingWaits : Obligations.CommitWhileStreamingWaits := by
  unfold Obligations.CommitWhileStreamingWaits
  intro g s h hs
  rw [exec_commit, commit_streaming h hs]
  rfl

end Sys2Proof.Machine

/-! ### START (40_host_operations.md R146 to R149) -/

namespace Sys2Proof.Machine

theorem exec_start (g : BitVec 24) (s : State) : exec (.start g) s = .next (start s) := rfl

/-- A rate without an entry is a key of no pair of the bank (45_rate_converter.md R301). -/
theorem bankLookup_eq_none_iff {par : Params} {rate : Word} :
    bankLookup par rate = none ↔ ∀ x, x ∈ par.rsBank → x.1 ≠ rate := by
  unfold bankLookup
  simp only [List.lookup_eq_none_iff, bne_iff_ne, ne_comm]

/-- START refused by its own checks: the error and nothing else, the sink is not asked (R146). -/
theorem exec_start_of_refusal {s : State} {c : ErrorClass} {code : BitVec 8} (h : startRefusal s = some (c, code))
    (g : BitVec 24) :
    exec (.start g) s = .next (s.setCtl { s.ctl with err := s.ctl.err ||| c.mask, errInfo := code }) := by
  rw [exec_start, start, h, ← raise_eq_or_mask]

theorem startRefusal_streaming {s : State} (h : s.pipe.stream = .streaming) : startRefusal s = some (.startBusy, 48) := by
  simp [startRefusal, h]

theorem startRefusal_not_configured {s : State} (hs : s.pipe.stream = .idle) (hv : s.flags.cfgValid = false) :
    startRefusal s = some (.configuration, 8) := by
  simp [startRefusal, hs, hv]

theorem startRefusal_bufLen {s : State} (hs : s.pipe.stream = .idle) (hv : s.flags.cfgValid = true)
    (hlen : s.ctl.bufLen.toNat = 0 ∨ 4096 < s.ctl.bufLen.toNat) : startRefusal s = some (.configuration, 7) := by
  rw [startRefusal, if_neg (not_not.2 hs), if_neg (by rw [hv]; decide), bufMax, if_pos hlen]

theorem startRefusal_rate {s : State} (hs : s.pipe.stream = .idle) (hv : s.flags.cfgValid = true)
    (hlen : 1 ≤ s.ctl.bufLen.toNat ∧ s.ctl.bufLen.toNat ≤ 4096) (hlive : s.ctl.live = true)
    (hrate : bankLookup s.par s.ctl.outRate = none) : startRefusal s = some (.rateConversion, 32) := by
  rw [startRefusal, if_neg (not_not.2 hs), if_neg (by rw [hv]; decide), bufMax, if_neg (by omega), if_pos ⟨hlive, hrate⟩]

/-- Settles O19: START's refusals, each where the earlier checks pass. -/
theorem startRefusedBeforeTheSinkIsAsked : Obligations.StartRefusedBeforeTheSinkIsAsked := by
  unfold Obligations.StartRefusedBeforeTheSinkIsAsked
  intro g s hs
  refine ⟨fun hv => ?_, fun hv hlen => ?_, fun hv hlow hhigh hlive hrate => ?_⟩
  · exact exec_start_of_refusal (startRefusal_not_configured hs hv) g
  · exact exec_start_of_refusal (startRefusal_bufLen hs hv hlen) g
  · exact exec_start_of_refusal (startRefusal_rate hs hv ⟨hlow, hhigh⟩ hlive (bankLookup_eq_none_iff.2 hrate)) g

/-- Settles O20: STATE is the first of START's checks. -/
theorem startWhileStreamingIsBusy : Obligations.StartWhileStreamingIsBusy := by
  unfold Obligations.StartWhileStreamingIsBusy
  exact fun g s hs => exec_start_of_refusal (startRefusal_streaming hs) g

theorem StartPasses.startRefusal_eq_none {s : State} (h : StartPasses s) : startRefusal s = none := by
  refine (startRefusal_eq_none_iff s).2 ⟨h.idle, h.configured, h.bufLen, fun hlive hnone => ?_⟩
  obtain ⟨e, he⟩ := h.rate hlive
  exact bankLookup_eq_none_iff.1 hnone _ he rfl

/-- What START does with the sink's answer (R146). -/
def onSinkAnswer (s : State) : SinkAnswer → State
  | .ok => beginStream s
  | .unavailable => raise .sink 16 s
  | .unsupported => raise .sink 17 s

/-- Once START's own checks pass the sink is asked, and its answer decides (R146). -/
theorem StartPasses.start_eq {s u : State} {a : SinkAnswer} (h : StartPasses s)
    (hopen : sinkOpen (offeredRate s) s.ctl.live s = (a, u)) :
    start s = onSinkAnswer u a := by
  rw [start, h.startRefusal_eq_none]
  simp only [hopen]
  cases a <;> rfl

/-- The state after the request to the sink (10_state.md R59). -/
theorem eq_of_sinkOpen {rate : Word} {live : Bool} {s u : State} {a : SinkAnswer} (h : sinkOpen rate live s = (a, u)) :
    u = (s.setWorld u.world).setOut { s.out with sinkOpen := some (rate, live) } := by
  have hsnd := sinkOpen_snd rate live s
  rw [h] at hsnd
  exact hsnd

/-- Settles O21: an answer other than OK raises SinkError in the state the request left. -/
theorem startRefusedByTheSink : Obligations.StartRefusedByTheSink := by
  unfold Obligations.StartRefusedByTheSink
  intro g s u a hpass hopen
  have hu := eq_of_sinkOpen hopen
  have hctl : u.ctl = s.ctl := by rw [hu]; rfl
  refine ⟨hu, ?_, ?_⟩
  all_goals
    rintro rfl
    rw [exec_start, hpass.start_eq hopen, onSinkAnswer, raise_eq_or_mask, hctl]
    rfl

/-- In live mode START latches the bank's entry for OUT_RATE (R146 (d)). -/
theorem StartPasses.latchedEntry_mem {s : State} (h : StartPasses s) (hlive : s.ctl.live = true) :
    (s.ctl.outRate, latchedEntry s) ∈ s.par.rsBank := by
  obtain ⟨-, -, -, hrate⟩ := (startRefusal_eq_none_iff s).1 h.startRefusal_eq_none
  obtain ⟨e, he⟩ := Option.ne_none_iff_exists'.1 (hrate hlive)
  have hentry : latchedEntry s = e := by simp [latchedEntry, hlive, he]
  rw [hentry]
  exact mem_of_bankLookup he

/-- In file mode the entry in place stays (R146 (d); log 26). -/
theorem latchedEntry_file {s : State} (h : s.ctl.live = false) : latchedEntry s = s.conv.entry := by
  simp [latchedEntry, h]

/-- The converter START leaves: history 0, RS_POS at the RS_L of the entry latched (45_rate_converter.md R303; log 26). -/
theorem beginStream_conv (s : State) : (beginStream s).conv =
    ⟨Vector.replicate 64 0, BitVec.ofNat 11 (latchedEntry s).l.val, latchedEntry s⟩ := rfl

@[simp] theorem beginStream_ctl (s : State) : (beginStream s).ctl = s.ctl := by simp [beginStream]
@[simp] theorem beginStream_sh (s : State) : (beginStream s).sh = s.sh := by simp [beginStream]
@[simp] theorem beginStream_pe (s : State) : (beginStream s).pe = s.pe := by simp [beginStream]
@[simp] theorem beginStream_ac (s : State) : (beginStream s).ac = s.ac := by simp [beginStream]
@[simp] theorem beginStream_flags (s : State) : (beginStream s).flags = s.flags := by simp [beginStream]
@[simp] theorem beginStream_par (s : State) : (beginStream s).par = s.par := by simp [beginStream]
@[simp] theorem beginStream_world (s : State) : (beginStream s).world = s.world := by simp [beginStream]
@[simp] theorem beginStream_out (s : State) : (beginStream s).out = s.out := by simp [beginStream]

/-- Settles O22: `beginStream` in the state the request left, part by part. -/
theorem startBeginsAFreshStream : Obligations.StartBeginsAFreshStream := by
  unfold Obligations.StartBeginsAFreshStream
  intro g s u hpass hopen
  have hstart : start s = beginStream u := hpass.start_eq hopen
  rw [exec_start, hstart]
  obtain ⟨w, rfl⟩ : ∃ w, u = (s.setWorld w).setOut _ := ⟨_, eq_of_sinkOpen hopen⟩
  refine ⟨_, rfl, rfl, rfl, rfl, fun k => ?_, rfl, hpass.latchedEntry_mem, latchedEntry_file, beginStream_pipe _, rfl, rfl, rfl,
    by simp⟩
  rw [beginStream_conv]
  exact Vector.getElem_replicate ..

end Sys2Proof.Machine

/-! ### STOP (40_host_operations.md R150) -/

namespace Sys2Proof.Machine

theorem exec_stop (g : BitVec 24) (s : State) : exec (.stop g) s = .next (stop s) := rfl

@[simp] theorem teardown_out (s : State) : (teardown s).out = { s.out with sinkRelease := true } := by
  simp [teardown, pulseRelease]

/-- The flags after a station adoption, whether or not one waited (20_memory.md R82). -/
theorem adoptStation_flags_eq (s : State) : (adoptStation s).flags =
    { s.flags with pendRds := false, rtAb := if s.flags.pendRds then nextRtAb s else s.flags.rtAb } := by
  rw [adoptStation_flags]
  generalize nextRtAb s = flipped
  obtain ⟨_ | _, _, _, _⟩ := s.flags <;> rfl

/-- The flags after an audio adoption, whether or not one waited (20_memory.md R83). -/
theorem adoptAudio_flags_eq (s : State) : (adoptAudio s).flags = { s.flags with pendAud := false } := by
  rw [adoptAudio_flags]
  obtain ⟨_, _ | _, _, _⟩ := s.flags <;> rfl

/-- The commit flags after a teardown: nothing waits, and RT_AB as the station adoption left it (46_delivery_pipeline.md R341). -/
theorem teardown_flags (s : State) : (teardown s).flags =
    ⟨false, false, s.flags.cfgValid, if s.flags.pendRds then nextRtAb s else s.flags.rtAb⟩ := by
  rw [teardown, adoptAudio_flags_eq, adoptStation_flags_eq]
  rfl

/-- The model's teardown is the rule's (46_delivery_pipeline.md R341). -/
theorem teardown_tornDown (s : State) : TornDown s (teardown s) where
  pipe := teardown_pipe s
  release := teardown_out s
  station := by rw [teardown_ac]
  audio := by rw [teardown_ac]
  nothingPending := teardown_pending s
  cfgValid := by rw [teardown_flags]
  textFlag := by
    rw [teardown_flags]
    cases s.flags.pendRds
    · exact rfl
    · exact nextRtAb_flipsOnNewText s
  rest := by simp

/-- Settles O23: by STATE and the place in the buffer. -/
theorem stopTearsDownAtABufferBoundary : Obligations.StopTearsDownAtABufferBoundary := by
  unfold Obligations.StopTearsDownAtABufferBoundary
  intro g s
  rw [exec_stop, stop]
  refine ⟨fun hs => ?_, fun hs hpos => ?_, fun hs hpos => ?_⟩ <;> rw [hs]
  · simp only [hpos, if_true]
    exact ⟨_, rfl, teardown_tornDown s⟩
  · simp only [hpos, if_false]

/-! ### The drain of a waiting STOP (R150 (c), 46_delivery_pipeline.md R336, R339) -/

/-- The engine's run of one take leaves the pipeline and the ports (R336). -/
theorem engine_pipe_out (s : State) :
    (if s.pipe.liveAct then (rsOut s).2 else (tick s).2).pipe = s.pipe ∧
      (if s.pipe.liveAct then (rsOut s).2 else (tick s).2).out = s.out := by
  split <;> simp

/-- A take inside a buffer counts one sample; the stream and the sink stay (R336). -/
theorem sinkTake_pipe_out_of_room {s : State} (hs : s.pipe.stream = .streaming)
    (hroom : s.pipe.bufPos + 1 ≠ s.pipe.bufLenAct) :
    (sinkTake s).2.pipe = { s.pipe with bufPos := s.pipe.bufPos + 1 } ∧ (sinkTake s).2.out = s.out := by
  obtain ⟨hpipe, hout⟩ := engine_pipe_out s
  rw [sinkTake_snd, if_neg (by rw [hs]; decide), countTake_eq, hpipe, if_neg hroom]
  exact ⟨rfl, hout⟩

/-- The take that fills a buffer while a STOP waits ends in a teardown (R339). -/
theorem sinkTake_of_full {s : State} (hs : s.pipe.stream = .streaming) (hstop : s.pipe.stopReq = true)
    (hfull : s.pipe.bufPos + 1 = s.pipe.bufLenAct) : ∃ u, (sinkTake s).2 = teardown u := by
  obtain ⟨hpipe, -⟩ := engine_pipe_out s
  rw [sinkTake_snd, if_neg (by rw [hs]; decide), countTake_eq, hpipe, if_pos hfull, bufferComplete_eq,
    State.setPipe_pipe, if_pos hstop]
  exact ⟨_, rfl⟩

/-- The last take of a run, split off. -/
theorem takes_succ_eq (n : Nat) (s : State) : takes (n + 1) s = (sinkTake (takes n s)).2 := by
  induction n generalizing s with
  | zero => rfl
  | succ n ih => exact ih (sinkTake s).2

/-- Takes that do not fill the buffer only count (R336). -/
theorem takes_inside {s : State} (hs : s.pipe.stream = .streaming) {n : Nat}
    (hn : s.pipe.bufPos.toNat + n < s.pipe.bufLenAct.toNat) :
    (takes n s).pipe = { s.pipe with bufPos := s.pipe.bufPos + BitVec.ofNat 13 n } ∧ (takes n s).out = s.out := by
  induction n with
  | zero => exact ⟨by simp [takes], rfl⟩
  | succ n ih =>
    obtain ⟨hpipe, hout⟩ := ih (by omega)
    have hroom : s.pipe.bufPos + BitVec.ofNat 13 n + 1 ≠ s.pipe.bufLenAct := by
      have := s.pipe.bufLenAct.isLt
      bv_omega
    obtain ⟨hpipe', hout'⟩ := sinkTake_pipe_out_of_room (s := takes n s) (by rw [hpipe]; exact hs)
      (by rw [hpipe]; exact hroom)
    rw [takes_succ_eq, hpipe', hout', hpipe, hout, BitVec.add_assoc, BitVec.ofNat_add]
    exact ⟨rfl, rfl⟩

/-- Settles O24: the takes before the last only count, and the last one fills the buffer. -/
theorem stopDrainsTheBufferInFlight : Obligations.StopDrainsTheBufferInFlight := by
  unfold Obligations.StopDrainsTheBufferInFlight
  intro s hs hstop hlt
  refine ⟨fun n hn => ?_, ?_⟩
  · obtain ⟨hpipe, hout⟩ := takes_inside hs (n := n) (by omega)
    rw [hpipe, hout]
    refine ⟨hs, ?_, rfl⟩
    have := s.pipe.bufLenAct.isLt
    change (s.pipe.bufPos + BitVec.ofNat 13 n).toNat = _
    bv_omega
  · obtain ⟨m, hm⟩ : ∃ m, s.pipe.bufLenAct.toNat - s.pipe.bufPos.toNat = m + 1 := ⟨_, (Nat.succ_pred (by omega)).symm⟩
    obtain ⟨hpipe, -⟩ := takes_inside hs (n := m) (by omega)
    have hfull : s.pipe.bufPos + BitVec.ofNat 13 m + 1 = s.pipe.bufLenAct := by
      have := s.pipe.bufLenAct.isLt
      bv_omega
    obtain ⟨u, hu⟩ := sinkTake_of_full (s := takes m s) (by rw [hpipe]; exact hs) (by rw [hpipe]; exact hstop)
      (by rw [hpipe]; exact hfull)
    rw [hm, takes_succ_eq, hu, teardown_pipe, teardown_out]
    exact ⟨rfl, rfl, rfl, teardown_pending u⟩

end Sys2Proof.Machine

/-! ### RD, the commands through CMD, NOP and the reserved opcodes (40_host_operations.md R140, R144, R145, R152) -/

namespace Sys2Proof.Machine

/-- Settles O6. -/
theorem rdPutsTheRegisterOnRdata : Obligations.RdPutsTheRegisterOnRdata := by
  unfold Obligations.RdPutsTheRegisterOnRdata
  exact exec_rd

/-- The row a command word decodes to does the command its low byte names (R145). -/
theorem exec_decodeCmd (v : Word) (s : State) : exec (decodeCmd v) s = .next (doCommand (v.setWidth 8) s) := by
  obtain ⟨op, ign, rfl⟩ := exists_eq_cmdWord v
  have hop : (cmdWord op ign).setWidth 8 = op := BitVec.setWidth_append_eq_right
  rw [decodeCmd_cmdWord, hop]
  unfold doCommand
  split_ifs <;> rfl

/-- Settles O13: CMD's word holds the register, and its write is the command the word decodes to. -/
theorem wrCmdRunsTheCommandNamed : Obligations.WrCmdRunsTheCommandNamed := by
  unfold Obligations.WrCmdRunsTheCommandNamed
  intro v s
  have hcmd : regAt (wordIndex 0x004) = some .cmd := by decide
  exact ⟨_, _, rfl, exec_decodeCmd v s, exec_wr_of_regAt hcmd v s⟩

theorem exec_nop (g : BitVec 24) (s : State) : exec (.nop g) s = .next s := rfl

/-- Settles O14. -/
theorem nopLeavesEverythingAsItWas : Obligations.NopLeavesEverythingAsItWas := by
  unfold Obligations.NopLeavesEverythingAsItWas
  exact exec_nop

theorem exec_cmdReserved (op : BitVec 8) (g : BitVec 24) (s : State) :
    exec (.cmdReserved op g) s = .next (raise .badCommand 49 s) := rfl

/-- Settles O25. -/
theorem reservedCommandFlagsBadCommand : Obligations.ReservedCommandFlagsBadCommand := by
  unfold Obligations.ReservedCommandFlagsBadCommand
  intro op g s
  rw [exec_cmdReserved, raise_eq_or_mask]
  rfl

end Sys2Proof.Machine

/-! ### The bit-serial form of crc10 (41_group_encoder.md R170 to R172) -/

namespace Sys2Proof.Machine

theorem remBits_append (l₁ l₂ : List Bool) (r : BitVec 11) : remBits (l₁ ++ l₂) r = remBits l₂ (remBits l₁ r) := by
  induction l₁ generalizing r with
  | nil => rfl
  | cons b l₁ ih => rw [List.cons_append, remBits_cons, remBits_cons, ih]

/-- The bits of the upper word are sent first. -/
theorem bitsMsb_append {m n : Nat} (x : BitVec m) (y : BitVec n) : bitsMsb (x ++ y) = bitsMsb x ++ bitsMsb y := by
  have hupper : ((List.range m).map (n + ·)).reverse.map (x ++ y).getLsbD = bitsMsb x := by
    rw [← List.map_reverse, List.map_map]
    exact List.map_congr_left fun k _ => by simp [BitVec.getLsbD_append]
  have hlower : (List.range n).reverse.map (x ++ y).getLsbD = bitsMsb y :=
    List.map_congr_left fun k hk => by
      have hlt : k < n := List.mem_range.1 (List.mem_reverse.1 hk)
      simp [BitVec.getLsbD_append, hlt]
  rw [← hupper, ← hlower, ← List.map_append, ← List.reverse_append, ← List.range_add, Nat.add_comm n m, bitsMsb]

/-- The remainder `r` after ten more bits, all 0: what multiplying by x^10 makes of it (R172). -/
def timesX10 (r : BitVec 11) : BitVec 10 := (remBits (List.replicate 10 false) r).setWidth 10

theorem timesX10_xor (r q : BitVec 11) : timesX10 (r ^^^ q) = timesX10 r ^^^ timesX10 q := by
  have hxor : remBits (List.replicate 10 false) (r ^^^ q) =
      remBits (List.replicate 10 false) r ^^^ remBits (List.replicate 10 false) q :=
    remBits_xor (fun _ => false) (fun _ => false) (List.range 10) r q
  rw [timesX10, hxor, BitVec.setWidth_xor]
  rfl

/-- crc10 divides the ten zeros last. -/
theorem crc10_eq_timesX10 (m : BitVec 16) : crc10 m = timesX10 (remBits (bitsMsb m) 0) := by
  rw [crc10, polyRem, bitsMsb_append, remBits_append]
  rfl

/-- One step of the bit-serial form (R172). -/
def crcStep (b : Bool) (c : BitVec 10) : BitVec 10 := c <<< 1 ^^^ if xor (c.getLsbD 9) b then 0x1B9#10 else 0#10

theorem crcSerial_cons (b : Bool) (bs : List Bool) (c : BitVec 10) :
    crcSerial (b :: bs) c = crcSerial bs (crcStep b c) := by
  rw [crcSerial, crcStep]
  split
  · rfl
  · rw [BitVec.xor_zero]

/-- The bit that comes in adds x^10 mod GPOLY, 0x1B9, whatever the register holds. -/
theorem crcStep_eq_xor (b : Bool) (c : BitVec 10) :
    crcStep b c = crcStep false c ^^^ if b then 0x1B9#10 else 0#10 := by
  have hfeedback (p q : Bool) : (if xor p q then 0x1B9#10 else 0#10) =
      (if xor p false then 0x1B9#10 else 0#10) ^^^ if q then 0x1B9#10 else 0#10 := by
    cases p <;> cases q <;> decide
  rw [crcStep, hfeedback, ← BitVec.xor_assoc, ← crcStep]

/-- Without a new bit, the two registers take the same step: bit 10 of GPOLY only clears the bit that leaves. -/
theorem setWidth_remStep_false (r : BitVec 11) : (remStep false r).setWidth 10 = crcStep false (r.setWidth 10) := by
  have hshift : (r.shiftConcat false).setWidth 10 = r.setWidth 10 <<< 1 := by
    ext i hi
    have hfits : i < 11 ∧ i - 1 < 11 := by omega
    by_cases h : i = 0 <;> simp [BitVec.getElem_shiftConcat, h, hfits]
  have htop : xor ((r.setWidth 10).getLsbD 9) false = r.getLsbD 9 := by simp
  rw [remStep, crcStep, BitVec.setWidth_xor, hshift, htop, apply_ite (BitVec.setWidth 10)]
  rfl

/-- The bit-serial register always holds the remainder times x^10. -/
theorem timesX10_remStep (b : Bool) (r : BitVec 11) : timesX10 (remStep b r) = crcStep b (timesX10 r) := by
  have hsplit : remStep b r = remStep false r ^^^ remStep b 0 := by
    rw [← remStep_xor, Bool.false_xor]
    exact congrArg _ BitVec.xor_zero.symm
  have hfalse : timesX10 (remStep false r) = crcStep false (timesX10 r) := by
    have hzeros : remBits (List.replicate 10 false) (remStep false r) =
        remStep false (remBits (List.replicate 10 false) r) := by
      rw [← remBits_cons, ← List.replicate_succ, List.replicate_succ', remBits_append, remBits_cons]
      rfl
    rw [timesX10, hzeros, setWidth_remStep_false]
    rfl
  have hbit : timesX10 (remStep b 0) = if b then 0x1B9#10 else 0#10 := by cases b <;> decide +kernel
  rw [hsplit, timesX10_xor, hfalse, hbit, ← crcStep_eq_xor]

theorem crcSerial_timesX10 (l : List Bool) (r : BitVec 11) : crcSerial l (timesX10 r) = timesX10 (remBits l r) := by
  induction l generalizing r with
  | nil => rfl
  | cons b l ih => rw [crcSerial_cons, ← timesX10_remStep, ih, remBits_cons]

/-- The bit-serial form gives the checkword of the division (R172). -/
theorem crcSerial_eq_crc10 (m : BitVec 16) : crcSerial (bitsMsb m) 0 = crc10 m :=
  (crcSerial_timesX10 (bitsMsb m) 0).trans (crc10_eq_timesX10 m).symm

/-- Settles O32: the division is linear and starts to reduce at 0x400; the bit-serial form runs ten zeros ahead of it. -/
theorem remainderIsLinear : Obligations.RemainderIsLinear := by
  unfold Obligations.RemainderIsLinear
  exact ⟨fun _ => polyRem_xor, fun _ _ => polyRem_toNat_of_lt, crcSerial_eq_crc10⟩

end Sys2Proof.Machine

/-! ### Blocks and groups (41_group_encoder.md R173, R174, R187) -/

namespace Sys2Proof.Machine

theorem block26_info (m : BitVec 16) (off : BitVec 10) : (block26 m off).extractLsb' 10 16 = m :=
  BitVec.extractLsb'_append_eq_left

theorem blocksOf_assemble (b1 b2 b3 b4 : BitVec 16) : blocksOf (assemble b1 b2 b3 b4) =
    [block26 b1 offsetA, block26 b2 offsetB, block26 b3 offsetC, block26 b4 offsetD] :=
  blocksOf_append ..

/-- Each block of a group verifies with its own offset word (R174, R187). -/
theorem syndromes_assemble (b1 b2 b3 b4 : BitVec 16) :
    (blocksOf (assemble b1 b2 b3 b4)).map syndrome = [offsetA, offsetB, offsetC, offsetD] := by
  simp only [blocksOf_assemble, List.map_cons, List.map_nil, syndrome_block26]

/-- The first information word stands at the top of the group (R187). -/
theorem assemble_firstInfo (b1 b2 b3 b4 : BitVec 16) : (assemble b1 b2 b3 b4).extractLsb' 88 16 = b1 :=
  (extractLsb'_append_above _ (block26 b4 offsetD) 62 16).trans <|
    (extractLsb'_append_above _ (block26 b3 offsetC) 36 16).trans <|
    (extractLsb'_append_above _ (block26 b2 offsetB) 10 16).trans (block26_info b1 offsetA)

/-- Settles O33: the checkword of a block cancels all but its offset word, and a group is its four blocks in a row. -/
theorem syndromeOfABlockIsItsOffset : Obligations.SyndromeOfABlockIsItsOffset := by
  unfold Obligations.SyndromeOfABlockIsItsOffset
  exact ⟨fun m off => ⟨block26_info m off, syndrome_block26 m off⟩, blocksOf_assemble⟩

end Sys2Proof.Machine

/-! ### The schedule walk, slot by slot (41_group_encoder.md R180, R181) -/

namespace Sys2Proof.Machine

/-- The state with SCHED_IDX at slot `m`, counted cyclically. -/
def State.atSlot (s : State) (m : Nat) : State :=
  s.setCur { s.cur with schedIdx := BitVec.ofNat 5 (m % s.ac.station.schedLen.toNat) }

theorem State.atSlot_schedIdx {s : State} {m : Nat} (h : m % s.ac.station.schedLen.toNat < 32) :
    (s.atSlot m).cur.schedIdx.toNat = m % s.ac.station.schedLen.toNat :=
  Nat.mod_eq_of_lt h

/-- The walk starts inside the schedule, at an index the register holds. -/
theorem walkStart_lt {s : State} (hn : s.ac.station.schedLen.toNat ≠ 0) :
    walkStart s < s.ac.station.schedLen.toNat ∧ walkStart s < 32 := by
  have hidx := s.cur.schedIdx.isLt
  unfold walkStart
  split <;> omega

/-- The guard puts SCHED_IDX where the walk starts (R181). -/
theorem schedGuard_eq_atSlot {s : State} (hn : s.ac.station.schedLen.toNat ≠ 0) :
    schedGuard s = s.atSlot (walkStart s) := by
  rw [schedGuard_eq, State.atSlot, Nat.mod_eq_of_lt (walkStart_lt hn).1, walkStart]
  split
  · rfl
  · rw [BitVec.ofNat_toNat, BitVec.setWidth_eq]

/-- The guard leaves an index inside the schedule alone (R181). -/
theorem schedGuard_of_lt {s : State} (h : s.cur.schedIdx.toNat < s.ac.station.schedLen.toNat) : schedGuard s = s :=
  if_neg (Nat.not_le.2 h)

/-- The advance is to the next slot, round the end (R181). -/
theorem schedAdvance_atSlot {s : State} {m : Nat} (hn : s.ac.station.schedLen.toNat ≠ 0)
    (hm : m % s.ac.station.schedLen.toNat < 32) : schedAdvance (s.atSlot m) = s.atSlot (m + 1) := by
  have hadvance := schedAdvance_eq (s := s.atSlot m) hn
  rw [State.atSlot_schedIdx hm] at hadvance
  rw [hadvance, State.atSlot, State.atSlot, ← Nat.mod_add_mod m]
  rfl

/-- A turn of the walk moves SCHED_IDX from the guarded index to the next one (R181). -/
theorem schedAdvance_schedGuard {s : State} (hn : s.ac.station.schedLen.toNat ≠ 0) :
    schedAdvance (schedGuard s) = s.atSlot (walkStart s + 1) := by
  obtain ⟨hlt, hfits⟩ := walkStart_lt hn
  rw [schedGuard_eq_atSlot hn, schedAdvance_atSlot hn (by rwa [Nat.mod_eq_of_lt hlt])]

end Sys2Proof.Machine

/-! ### The slot rows (30_encoding.md R112) -/

namespace Sys2Proof.Machine

/-- The row of a code runs a turn of the walk on it, unless the slot is skipped (R112, R181). -/
theorem exec_decodeSlot {code : BitVec 2} {s : State} (h : ¬SkippedSlot s.ac.station code) :
    exec (decodeSlot code) s = .next (report (.group (runSlot code s).1) (runSlot code s).2) := by
  have hcodes : ∀ c : BitVec 2, c = 0 ∨ c = 1 ∨ c = 2 ∨ c = 3 := by decide
  obtain rfl | rfl | rfl | rfl := hcodes code
  · rfl
  · rfl
  · have hct : s.ac.station.ctValid = true := Bool.not_eq_false _ ▸ fun hfalse => h ⟨rfl, hfalse⟩
    exact if_pos hct
  · rfl

/-- The row of a skipped slot only advances (R181 (b)). -/
theorem exec_slot4A_of_skipped {s : State} (h : s.ac.station.ctValid = false) :
    exec .slot4A s = .next (report .skipped (schedAdvance (schedGuard s))) :=
  if_neg (h ▸ Bool.false_ne_true)

/-- Settles O36: each row is a turn of the walk, and the builder's row run from there does the rest. -/
theorem slotRowsAdvanceAndBuild : Obligations.SlotRowsAdvanceAndBuild := by
  unfold Obligations.SlotRowsAdvanceAndBuild
  intro s v hn hv
  obtain rfl : v = s.atSlot (walkStart s + 1) := hv
  have hturn (code : BitVec 2) (h : ¬SkippedSlot s.ac.station code) : exec (decodeSlot code) s =
      .next (report (.group (buildSlot code (s.atSlot (walkStart s + 1))).1)
        (buildSlot code (s.atSlot (walkStart s + 1))).2) := by
    rw [exec_decodeSlot h, runSlot, schedAdvance_schedGuard hn]
  have hctl (code : BitVec 2) : (buildSlot code (s.atSlot (walkStart s + 1))).2.ctl = s.ctl := buildSlot_ctl ..
  refine ⟨⟨_, hturn 0 (by simp [SkippedSlot]), rfl, hctl 0⟩, ⟨_, hturn 1 (by simp [SkippedSlot]), rfl, hctl 1⟩,
    fun hct => ⟨_, hturn 2 (by simp [SkippedSlot, hct]), rfl, hctl 2⟩, fun hct => ?_, hturn 3 (by simp [SkippedSlot])⟩
  rw [exec_slot4A_of_skipped hct, schedAdvance_schedGuard hn]
  rfl

end Sys2Proof.Machine

/-! ### NEXT_GROUP on a legal schedule (41_group_encoder.md R180, R181, R187) -/

namespace Sys2Proof.Machine

/-- The code of the `j`-th slot of the walk that starts in `s`. -/
abbrev State.walkCode (s : State) (j : Nat) : BitVec 2 :=
  cyclicSlot s.ac.station s.ac.station.schedLen.toNat (walkStart s) j

/-- The slot the walk of `s` uses is its `j`-th: every one before it is skipped, it is not (R181). -/
structure WalkUses (s : State) (j : Nat) : Prop where
  lt : j < s.ac.station.schedLen.toNat
  skipped : ∀ k, k < j → SkippedSlot s.ac.station (s.walkCode k)
  used : ¬SkippedSlot s.ac.station (s.walkCode j)

/-- A legal schedule is not empty and fits its registers. -/
theorem schedLen_of_legal {c : Settings} (h : ¬SchedBad c) :
    c.station.schedLen.toNat ≠ 0 ∧ c.station.schedLen.toNat ≤ 32 := by
  unfold SchedBad at h
  omega

/-- The register a slot of the walk is read from. -/
theorem cyclicSlot_eq {st : Station} {n : Nat} (hn : n ≠ 0) (hfits : n ≤ 32) (i j : Nat) :
    cyclicSlot st n i j = st.sched[(i + j) % n]'((Nat.mod_lt _ (Nat.pos_of_ne_zero hn)).trans_le hfits) := by
  have hlt : (i + j) % n < n := Nat.mod_lt _ (Nat.pos_of_ne_zero hn)
  simp only [cyclicSlot, Station.slotAt, BitVec.toNat_ofNat, Nat.mod_eq_of_lt (show (i + j) % n < 2 ^ 5 by omega)]

/-- A legal schedule does not use the reserved code. -/
theorem walkCode_ne_reserved {s : State} (h : ¬SchedBad s.ac) (j : Nat) : s.walkCode j ≠ 3 := by
  obtain ⟨hn, hfits⟩ := schedLen_of_legal h
  have hlt : (walkStart s + j) % s.ac.station.schedLen.toNat < s.ac.station.schedLen.toNat :=
    Nat.mod_lt _ (Nat.pos_of_ne_zero hn)
  rw [State.walkCode, cyclicSlot_eq hn hfits]
  exact fun hcode => h (.inr (.inr (.inl ⟨⟨_, hlt.trans_le hfits⟩, hlt, hcode⟩)))

/-- Counting from the start of the walk reaches every slot of the schedule. -/
theorem exists_walk_turn {n i : Nat} (start : Nat) (hi : i < n) : ∃ j, j < n ∧ (start + j) % n = i := by
  refine ⟨(i + (n - start % n)) % n, Nat.mod_lt _ (by omega), ?_⟩
  have hstart : start % n < n := Nat.mod_lt _ (by omega)
  calc (start + (i + (n - start % n)) % n) % n
      = (start % n + (i + (n - start % n))) % n := by rw [Nat.add_mod_mod, Nat.mod_add_mod]
    _ = (i + n) % n := by congr 1; omega
    _ = i := by rw [Nat.add_mod_right, Nat.mod_eq_of_lt hi]

open Classical in
/-- On a legal schedule some slot is no 4A slot, so the walk uses one, the first that is not skipped (R181). -/
theorem exists_walkUses {s : State} (h : ¬SchedBad s.ac) : ∃ j, WalkUses s j := by
  obtain ⟨hn, hfits⟩ := schedLen_of_legal h
  obtain ⟨i, hi, hslot⟩ : ∃ i : Fin 32, i.val < s.ac.station.schedLen.toNat ∧ s.ac.station.sched[i] ≠ 2 := by
    by_contra hall
    push Not at hall
    exact h (.inr (.inr (.inr hall)))
  obtain ⟨j, hj, hturn⟩ := exists_walk_turn (walkStart s) hi
  have hused : ¬SkippedSlot s.ac.station (s.walkCode j) := fun hskip => by
    have hcode := hskip.1
    simp only [State.walkCode, cyclicSlot_eq hn hfits, hturn] at hcode
    exact hslot hcode
  have hexists : ∃ j, ¬SkippedSlot s.ac.station (s.walkCode j) := ⟨j, hused⟩
  exact ⟨Nat.find hexists, (Nat.find_min' hexists hused).trans_lt hj, fun k hk => not_not.1 (Nat.find_min hexists hk),
    Nat.find_spec hexists⟩

/-- The loop passes skipped slots one by one and stops at the first that is not (R181). -/
theorem walkSchedule_atSlot {s : State} (hn : s.ac.station.schedLen.toNat ≠ 0) (hfits : s.ac.station.schedLen.toNat ≤ 32)
    {j : Nat} (fuel m : Nat) (hj : j < fuel)
    (hskipped : ∀ k, k < j → SkippedSlot s.ac.station (cyclicSlot s.ac.station s.ac.station.schedLen.toNat m k))
    (hused : ¬SkippedSlot s.ac.station (cyclicSlot s.ac.station s.ac.station.schedLen.toNat m j)) :
    walkSchedule fuel (s.atSlot m) =
      (some (cyclicSlot s.ac.station s.ac.station.schedLen.toNat m j), s.atSlot (m + j + 1)) := by
  have hadvance (i : Nat) : schedAdvance (s.atSlot i) = s.atSlot (i + 1) :=
    schedAdvance_atSlot hn ((Nat.mod_lt _ (Nat.pos_of_ne_zero hn)).trans_le hfits)
  induction j generalizing fuel m with
  | zero =>
    obtain ⟨fuel, rfl⟩ := Nat.exists_eq_succ_of_ne_zero (Nat.ne_of_gt hj)
    rw [walkSchedule_succ, hadvance]
    exact if_neg hused
  | succ j ih =>
    obtain ⟨fuel, rfl⟩ := Nat.exists_eq_succ_of_ne_zero (Nat.ne_of_gt (Nat.zero_lt_of_lt hj))
    have hshift (k : Nat) : cyclicSlot s.ac.station s.ac.station.schedLen.toNat (m + 1) k =
        cyclicSlot s.ac.station s.ac.station.schedLen.toNat m (k + 1) := by
      rw [cyclicSlot, cyclicSlot, Nat.add_right_comm, Nat.add_assoc m k 1]
    have hrest := ih fuel (m + 1) (Nat.lt_of_succ_lt_succ hj) (fun k hk => hshift k ▸ hskipped (k + 1) (Nat.succ_lt_succ hk))
      (hshift j ▸ hused)
    rw [walkSchedule_succ, hadvance, hrest, hshift, Nat.add_right_comm m 1 j]
    exact if_pos (hskipped 0 (Nat.succ_pos j))

/-- next_group() builds the group of the slot the walk uses, with SCHED_IDX just after it (R180, R181). -/
theorem nextGroup_eq {s : State} (h : ¬SchedBad s.ac) {j : Nat} (hj : WalkUses s j) :
    nextGroup s = buildSlot (s.walkCode j) (s.atSlot (walkStart s + j + 1)) := by
  obtain ⟨hn, hfits⟩ := schedLen_of_legal h
  have hselect : selectSlot s = (some (s.walkCode j), s.atSlot (walkStart s + j + 1)) := by
    rw [selectSlot, schedGuard_eq_atSlot hn, walkSchedule_atSlot hn hfits _ _ hj.lt hj.skipped hj.used]
  rw [nextGroup, hselect]

theorem exec_nextGroup (s : State) :
    exec .nextGroup s = .next (report (.group (nextGroup s).1) (nextGroup s).2) := rfl

/-- Settles O34: the slot the walk uses has one of the three builders, which assembles its group from PI on. -/
theorem everyEmittedGroupVerifies : Obligations.EveryEmittedGroupVerifies := by
  unfold Obligations.EveryEmittedGroupVerifies
  intro s h
  obtain ⟨j, hj⟩ := exists_walkUses h
  have hcode := walkCode_ne_reserved h j
  obtain ⟨b2, b3, b4, hgroup⟩ := buildSlot_fst hcode (s.atSlot (walkStart s + j + 1))
  have hframe := buildSlot_snd hcode (s.atSlot (walkStart s + j + 1))
  rw [exec_nextGroup, nextGroup_eq h hj, hgroup, hframe]
  exact ⟨_, _, rfl, rfl, syndromes_assemble .., assemble_firstInfo .., rfl⟩

/-- The row of the slot the walk uses, run with SCHED_IDX on that slot, is NEXT_GROUP (R181). -/
theorem exec_decodeSlot_walkCode {s : State} (h : ¬SchedBad s.ac) {j : Nat} (hj : WalkUses s j) :
    exec (decodeSlot (s.walkCode j)) (s.atSlot (walkStart s + j)) = exec .nextGroup s := by
  obtain ⟨hn, hfits⟩ := schedLen_of_legal h
  have hlt : (walkStart s + j) % s.ac.station.schedLen.toNat < s.ac.station.schedLen.toNat :=
    Nat.mod_lt _ (Nat.pos_of_ne_zero hn)
  have hfit := hlt.trans_le hfits
  have hguard : schedGuard (s.atSlot (walkStart s + j)) = s.atSlot (walkStart s + j) :=
    schedGuard_of_lt ((State.atSlot_schedIdx hfit).trans_lt hlt)
  rw [exec_decodeSlot (s := s.atSlot (walkStart s + j)) hj.used, runSlot, hguard, schedAdvance_atSlot hn hfit,
    exec_nextGroup, nextGroup_eq h hj]

theorem decodeSlot_ne_reserved : ∀ {code : BitVec 2}, code ≠ 3 → decodeSlot code ≠ .slotReserved := by decide

/-- Settles O35: the first slot that is not skipped is the one the loop stops at, and its row runs the same turn. -/
theorem scheduleWalkUsesTheNextUnskippedSlot : Obligations.ScheduleWalkUsesTheNextUnskippedSlot := by
  unfold Obligations.ScheduleWalkUsesTheNextUnskippedSlot
  intro s h
  obtain ⟨hn, hfits⟩ := schedLen_of_legal h
  obtain ⟨j, hj⟩ := exists_walkUses h
  have hcode := walkCode_ne_reserved h j
  have hidx : (nextGroup s).2.cur.schedIdx.toNat = (walkStart s + j + 1) % s.ac.station.schedLen.toNat := by
    rw [nextGroup_eq h hj, buildSlot_schedIdx hcode]
    exact State.atSlot_schedIdx ((Nat.mod_lt _ (Nat.pos_of_ne_zero hn)).trans_le hfits)
  exact ⟨j, _, hj.lt, hj.skipped, hj.used, exec_nextGroup s, hidx, decodeSlot (s.walkCode j), rfl,
    decodeSlot_ne_reserved hcode, exec_decodeSlot_walkCode h hj⟩

end Sys2Proof.Machine

/-! ### The subcarrier sample (42_subcarrier_modulator.md R220 to R225, 10_state.md R46) -/

namespace Sys2Proof.Machine

/-- A symbol sign is +1, -1 or, for a symbol not sent yet, 0 (10_state.md R46). -/
theorem Sign.toInt_eq (g : Sign) : g.toInt = if g = .plus then 1 else if g = .minus then -1 else 0 := by cases g <;> rfl

theorem c57_eq_sineQuarter : ∀ p : Fin 12, c57 p = sineQuarter p.val := by decide

theorem sineQuarter_of_even : ∀ p : Fin 12, p.val % 2 = 0 → sineQuarter p.val = 0 := by decide

theorem rdsSample_eq (s : State) : rdsSample s = sineQuarter s.modu.phase.val * shapedSum s.par.shapeH s.modu := by
  rw [rdsSample, c57_eq_sineQuarter]

theorem shapeEntry_natCast (h : List (BitVec 16)) (k : Nat) : shapeEntry h k = shapeAt h k := by
  have hrange : (0 ≤ (k : Int) ∧ (k : Int) ≤ 479) ↔ k < 480 := by omega
  rw [shapeEntry, shapeAt, Int.toNat_natCast]
  exact if_congr hrange rfl rfl

theorem shapeEntry_of_outside (h : List (BitVec 16)) {k : Int} (hk : ¬(0 ≤ k ∧ k ≤ 479)) : shapeEntry h k = 0 := if_neg hk

/-- The waveform is the pulse less the pulse 96 ticks later, both 0 outside their entries (R220, R221). -/
theorem waveAt_eq_shapeEntry (h : List (BitVec 16)) (n : Nat) :
    waveAt h n = shapeEntry h n - shapeEntry h ((n : Int) - 96) := by
  rw [waveAt, shapeEntry_natCast]
  split_ifs with hn
  · rw [shapeEntry_of_outside h (by omega)]
  · have hcast : (n : Int) - 96 = ((n - 96 : Nat) : Int) := by omega
    rw [hcast, shapeEntry_natCast]

/-- A conforming pulse is its own mirror image about 479/2, at every integer index (R220). -/
theorem ShapeOk.shapeEntry_mirror {h : List (BitVec 16)} (hs : ShapeOk h) (k : Int) : shapeEntry h (479 - k) = shapeEntry h k := by
  by_cases hk : 0 ≤ k ∧ k ≤ 479
  · obtain ⟨m, rfl⟩ := Int.eq_ofNat_of_zero_le hk.1
    have hcast : (479 : Int) - m = ((479 - m : Nat) : Int) := by omega
    rw [hcast, shapeEntry_natCast, shapeEntry_natCast, hs.symmetric m (by omega)]
  · rw [shapeEntry_of_outside h hk, shapeEntry_of_outside h (by omega)]

/-- The mirror swaps the two pulses of the waveform, so it changes the sign (R221). -/
theorem ShapeOk.waveAt_antisymm {h : List (BitVec 16)} (hs : ShapeOk h) {n : Nat} (hn : n < 576) :
    waveAt h (575 - n) = -waveAt h n := by
  have hfirst : ((575 - n : Nat) : Int) = 479 - ((n : Int) - 96) := by omega
  have hsecond : ((575 - n : Nat) : Int) - 96 = 479 - (n : Int) := by omega
  rw [waveAt_eq_shapeEntry, waveAt_eq_shapeEntry, hsecond, hfirst, hs.shapeEntry_mirror, hs.shapeEntry_mirror, neg_sub]

/-- A conforming pulse keeps the shaped sum in 16 signed bits (R222, R224). -/
theorem ShapeOk.shapedSum_natAbs_le {h : List (BitVec 16)} (hs : ShapeOk h) (m : Modulator) :
    (shapedSum h m).natAbs ≤ 32767 :=
  (Machine.shapedSum_natAbs_le h m).trans (hs.bounded _ m.bitPh.isLt)

theorem rdsSample_of_even_phase {s : State} (h : s.modu.phase.val % 2 = 0) : rdsSample s = 0 := by
  rw [rdsSample_eq, sineQuarter_of_even _ h, zero_mul]

/-- Settles O43: the mirror of the pulse gives the antisymmetry, the overlap bound the sixteen bits. -/
theorem subcarrierFitsSixteenBits : Obligations.SubcarrierFitsSixteenBits := by
  unfold Obligations.SubcarrierFitsSixteenBits
  intro s
  exact ⟨fun n _ => waveAt_eq_shapeEntry _ n, Sign.toInt_eq, rfl, rdsSample_eq s,
    fun hs => ⟨fun _ => hs.waveAt_antisymm, hs.shapedSum_natAbs_le s.modu, rdsSample_natAbs_le hs, rdsSample_of_even_phase⟩⟩

end Sys2Proof.Machine

/-! ### The bit step (42_subcarrier_modulator.md R212 to R215) -/

namespace Sys2Proof.Machine

theorem exec_bit (s : State) : exec .bit s = .next (bitStep s) := rfl

/-- The group boundary loads GROUPSR and leaves the rest of the modulator to the bit after it (R213). -/
theorem groupBoundary_modu (s : State) :
    (groupBoundary s).modu = { s.modu with groupSr := (nextGroup (adoptStation s)).1 } := by
  simp [groupBoundary]

theorem groupBoundary_eq (s : State) :
    groupBoundary s =
      ((nextGroup (adoptStation s)).2.setModu { s.modu with groupSr := (nextGroup (adoptStation s)).1 }).setCnt
        { s.cnt with groupCount := s.cnt.groupCount + 1 } := by
  simp [groupBoundary]

/-- The state a bit step sends its bit from: the one after the group boundary where BITIDX is 0 (R212, R213). -/
def bitSource (s : State) : State := if s.modu.bitIdx = 0 then groupBoundary s else s

theorem bitStep_eq_shiftBit (s : State) : bitStep s = (bitSource s).setModu (shiftBit (bitSource s).modu) := rfl

theorem bitSource_modu (s : State) : (bitSource s).modu = { s.modu with groupSr := (bitSource s).modu.groupSr } := by
  unfold bitSource
  split_ifs
  · rw [groupBoundary_modu]
  · rfl

theorem eq_bitSource {s u : State} (hinside : s.modu.bitIdx ≠ 0 → u = s)
    (hboundary : s.modu.bitIdx = 0 → u = groupBoundary s) : u = bitSource s := by
  unfold bitSource
  split_ifs with h
  · exact hboundary h
  · exact hinside h

/-- BITIDX counts the 104 bits of a group in a circle (R212). -/
theorem shiftBit_bitIdx (m : Modulator) : (shiftBit m).bitIdx.val = (m.bitIdx.val + 1) % 104 := Fin.val_add ..

/-- Settles O42: only GROUPSR differs between the state the bit is sent from and the state before the step. -/
theorem bitRowEncodesDifferentially : Obligations.BitRowEncodesDifferentially := by
  unfold Obligations.BitRowEncodesDifferentially
  intro s u hinside hboundary
  obtain rfl : u = bitSource s := eq_bitSource hinside fun h => (hboundary h).trans (groupBoundary_eq s).symm
  refine ⟨_, exec_bit s, ?_⟩
  rw [bitStep_eq_shiftBit, State.setModu_modu, bitSource_modu]
  exact ⟨rfl, rfl, rfl, rfl, rfl, shiftBit_bitIdx _, rfl, rfl, rfl⟩

end Sys2Proof.Machine

/-! ### The conditioning chain of one frame (43_audio_conditioning.md R240 to R251) -/

namespace Sys2Proof.Machine

/-- Settles O47: the limiter's wall holds through the final gain, and each stage keeps its register's range. -/
theorem limiterBoundsTheAudio : Obligations.LimiterBoundsTheAudio := by
  unfold Obligations.LimiterBoundsTheAudio
  intro c k f hlegal henv
  have hrange := audioRange_of_not_audioBad hlegal
  have hwall := condition_natAbs_add_le hrange k f
  exact ⟨Int.ofNat_le.1 hwall, condition_next_range hrange henv f⟩

/-- Sf is the difference signal after the separation, under three gains (R245, R248, R249, R251). -/
theorem condition_sf_scales_separated (a : Audio) (k : Conditioning) (f : Frame) : ∃ gc lg : Int,
    (condition a k f).sf = mulq15t (mulq15t (mulq15t (mulq15t (condition a k f).sd (regInt a.sep)) gc) lg) (regInt a.gain) :=
  ⟨_, _, rfl⟩

theorem condition_sf_of_sep_eq_zero {a : Audio} (h : a.sep = 0) (k : Conditioning) (f : Frame) : (condition a k f).sf = 0 := by
  obtain ⟨gc, lg, hsf⟩ := condition_sf_scales_separated a k f
  have hsep : regInt a.sep = 0 := by rw [h]; rfl
  simp [hsf, hsep]

theorem contributions_stereo_of_sf_eq_zero (p : Fin 12) (level : Coef) (mf rds : Int) :
    (contributions p level mf 0 rds).stereo = 0 := by simp [contributions]

/-- Settles O48: a separation of 0 makes the difference signal 0, and every later gain leaves it there. -/
theorem separationZeroIsMono : Obligations.SeparationZeroIsMono := by
  unfold Obligations.SeparationZeroIsMono
  intro a k f p level rds hsep
  have hsf := condition_sf_of_sep_eq_zero hsep k f
  rw [hsf]
  exact ⟨rfl, contributions_stereo_of_sf_eq_zero ..⟩

/-- ENV's register holds the whole envelope, since a legal half keeps it in 24 bits (R246). -/
theorem regInt_condition_env {a : Audio} (ha : AudioRange a) {k : Conditioning} (hk : k.env.toNat ≤ 8388608) (f : Frame) :
    regInt (condition a k f).next.env =
      envelopeNext (condition a k f).m.natAbs (regInt k.env) (regInt a.compAtt) (regInt a.compRel) := by
  have hm := condition_m_natAbs_le a k f
  obtain ⟨h0, h1⟩ := @envelopeNext_range (condition a k f).m.natAbs _ _ _ (by omega)
    ⟨regInt_nonneg k.env, by unfold regInt; omega⟩ ⟨regInt_nonneg a.compAtt, ha.att⟩ ⟨regInt_nonneg a.compRel, ha.rel⟩
  rw [condition_env, regInt_toReg h0 (by omega)]

section
variable {a : Audio} (ha : AudioRange a) (k : Conditioning) (f : Frame)
include ha

/-- GC's register holds the whole compressor gain, since a legal half keeps it at most 1.0 (R247). -/
theorem regInt_condition_gc : regInt (condition a k f).next.gc =
    compressorGain (regInt (condition a k f).next.env) (regInt a.compThr) (regInt a.compSlope) := by
  obtain ⟨h0, h1⟩ := @compressorGain_range (regInt (condition a k f).next.env) _ _ (regInt_nonneg a.compThr)
    ⟨regInt_nonneg a.compSlope, ha.slope⟩
  rw [condition_gc, regInt_toReg h0 (by omega)]

/-- LG's register holds the whole limiter gain for the two channels under GC (R248, R249). -/
theorem regInt_condition_lg : regInt (condition a k f).next.lg =
    limiterGain ((mulq15t (condition a k f).m (regInt (condition a k f).next.gc)).natAbs +
        (mulq15t (mulq15t (condition a k f).sd (regInt a.sep)) (regInt (condition a k f).next.gc)).natAbs)
      (regInt a.limCeil) (regInt k.lg) (regInt a.limRel) := by
  rw [regInt_condition_gc ha k f]
  obtain ⟨h0, h1, -⟩ := limiterGain_range (regInt_nonneg a.limCeil) (regInt_nonneg k.lg) (regInt_nonneg a.limRel)
  exact regInt_toReg h0 (by omega)

/-- Mf is M under the gains left in GC and LG and the final gain (R248, R249, R251). -/
theorem condition_mf_of_gains : (condition a k f).mf =
    mulq15t (mulq15t (mulq15t (condition a k f).m (regInt (condition a k f).next.gc)) (regInt (condition a k f).next.lg))
      (regInt a.gain) := by
  rw [regInt_condition_lg ha k f, regInt_condition_gc ha k f]
  rfl

/-- Sf is the separated difference signal under the same gains (R248, R249, R251). -/
theorem condition_sf_of_gains : (condition a k f).sf =
    mulq15t (mulq15t (mulq15t (mulq15t (condition a k f).sd (regInt a.sep)) (regInt (condition a k f).next.gc))
      (regInt (condition a k f).next.lg)) (regInt a.gain) := by
  rw [regInt_condition_lg ha k f, regInt_condition_gc ha k f]
  rfl

end

/-- Settles O49: stage by stage each value of the rules is the chain's own, and no register drops a bit of it. -/
theorem conditioningFollowsTheChain : Obligations.ConditioningFollowsTheChain := by
  unfold Obligations.ConditioningFollowsTheChain
  intro c k f yl yr m a env s1 e gc mc sc pk lg hlegal hk hyl hyr hm hs1 ha henv he hgc hmc hsc hpk hlg
  have hrange := audioRange_of_not_audioBad hlegal
  rw [Int.fdiv_eq_ediv_of_nonneg _ (by decide)] at hm hs1
  subst hyl hyr
  obtain rfl : m = (condition c.audio k f).m := hm
  obtain rfl : s1 = mulq15t (condition c.audio k f).sd (regInt c.audio.sep) := hs1
  subst ha henv
  obtain rfl : e = regInt (condition c.audio k f).next.env := he.trans (regInt_condition_env hrange hk f).symm
  obtain rfl : gc = regInt (condition c.audio k f).next.gc := hgc.trans (regInt_condition_gc hrange k f).symm
  subst hmc hsc hpk
  obtain rfl : lg = regInt (condition c.audio k f).next.lg := hlg.trans (regInt_condition_lg hrange k f).symm
  exact ⟨condition_mf_of_gains hrange k f, condition_sf_of_gains hrange k f, rfl, rfl, rfl, rfl, rfl⟩

end Sys2Proof.Machine

/-! ### One tick (44_multiplex_composer.md R282, R283, R288, R290, R291) -/

namespace Sys2Proof.Machine

theorem exec_tick_idle {s : State} (h : s.pipe.stream = .idle) : exec .tick s = .next s := execTick_idle h

theorem exec_tick_streaming {s : State} (h : s.pipe.stream = .streaming) : exec .tick s = .next (sampleRow tick s) :=
  execTick_streaming h

/-- All the row can do: nothing in IDLE, one tick while STREAMING (R290). -/
theorem exec_tick_cases {s t : State} (h : exec .tick s = .next t) :
    (s.pipe.stream = .idle ∧ t = s) ∨ (s.pipe.stream = .streaming ∧ t = sampleRow tick s) := by
  cases hs : s.pipe.stream with
  | idle => exact .inl ⟨rfl, (Host.Outcome.next.inj ((exec_tick_idle hs).symm.trans h)).symm⟩
  | streaming => exact .inr ⟨rfl, (Host.Outcome.next.inj ((exec_tick_streaming hs).symm.trans h)).symm⟩

/-! #### Headroom -/

/-- The audio half a tick works with is the active or the pending one, so it is legal when both are (20_memory.md R83). -/
theorem tickFront_audioRange_of_legal {s : State} (hac : ¬AudioBad s.ac) (hpe : ¬AudioBad s.pe) :
    AudioRange (tickFront s).ac.audio := by
  rw [(tickFront_ac s).2]
  split
  · exact audioRange_of_not_audioBad hpe
  · exact audioRange_of_not_audioBad hac

/-- The headroom of a tick rests on the shape and the audio half alone; the station half may be any (R283). -/
theorem tickParts_sum_natAbs_le_of_ranges {s : State} (hshape : ShapeOk s.par.shapeH) (ha : AudioRange (tickFront s).ac.audio) :
    (tickParts s).sum.natAbs ≤ 8304436 := by
  have hceil := ha.ceil
  have hwall : ((tickAudio s).mf.natAbs + (tickAudio s).sf.natAbs : Nat) ≤ regInt (tickFront s).ac.audio.limCeil := by
    rw [tickAudio, fetchFrame_ac]
    exact condition_natAbs_add_le ha _ _
  exact contributions_sum_natAbs_le (by omega) ha.rdsLevel (rdsSample_natAbs_le (by rw [tickFront_par]; exact hshape))

/-- A sum inside the headroom is delivered as it is (R282, R283). -/
theorem comp_eq_sum_of_natAbs_le {c : Contributions} (h : c.sum.natAbs ≤ 8304436) : c.comp = c.sum :=
  sat24_of_range (by omega) (by omega)

/-- A tick whose sum is delivered as it is leaves CLIP alone (R282). -/
theorem tick_clip {s : State} (h : (tickParts s).comp = (tickParts s).sum) :
    (tick s).2.ctl.err.getLsbD 6 = s.ctl.err.getLsbD 6 := by
  rw [(tick_ctl s).2 6 (by decide)]
  simp [h, ainUnderBit]

/-- Settles O50: a legal audio half bounds the sum, a bounded sum is not saturated, and CLIP is set for a saturated one only. -/
theorem headroomHolds : Obligations.HeadroomHolds := by
  unfold Obligations.HeadroomHolds
  intro s t hpar hac hpe h
  have hsum := tickParts_sum_natAbs_le_of_ranges hpar.shape (tickFront_audioRange_of_legal hac hpe)
  have hcomp := comp_eq_sum_of_natAbs_le hsum
  refine ⟨hsum, hcomp, ?_⟩
  obtain ⟨-, rfl⟩ | ⟨-, rfl⟩ := exec_tick_cases h
  · rfl
  · exact tick_clip hcomp

/-! #### The row in full -/

theorem t12_eq_sineTwelfth : ∀ p : Fin 12, t12 p = sineTwelfth p.val := by decide

/-- The 38 kHz carrier is the 19 kHz table at twice the phase (R271). -/
theorem sub38_eq_sineTwelfth : ∀ p : Fin 12, sub38 p = sineTwelfth (2 * p.val) := by decide

/-- A peak register holds every running maximum of 24 bits as it is (R288). -/
theorem peakWith_toNat {r : BitVec 24} {v : Int} (h : v.natAbs < 2 ^ 24) : (peakWith r v).toNat = max r.toNat v.natAbs := by
  rw [peakWith, BitVec.toNat_ofNat]
  exact Nat.mod_eq_of_lt (max_lt r.isLt h)

theorem comp_natAbs_lt (c : Contributions) : c.comp.natAbs < 2 ^ 24 := by
  have : -8388608 ≤ c.comp ∧ c.comp ≤ 8388607 := sat24_range _
  omega

/-- The pilot is bounded by its table whatever the state (R271, R273). -/
theorem pilot_natAbs_lt (p : Fin 12) : (mulq15t (t12 p * 256) gPilot).natAbs < 2 ^ 24 := by
  have ht := t12_natAbs_le p
  have hle : (mulq15t (t12 p * 256) gPilot).natAbs ≤ (t12 p * 256).natAbs := mulq15t_natAbs_le _ (by decide)
  omega

theorem tickFront_eq (s : State) : tickFront s = if s.modu.bitPh = 0 then bitStep (adoptAudio s) else adoptAudio s := by
  rw [tickFront, modulatorStep, adoptAudio_modu]

/-- Nothing of the audio half waits after a tick's front, for the group boundary raises no flag (R290, 20_memory.md R83). -/
theorem tickFront_pendAud (s : State) : (tickFront s).flags.pendAud = false :=
  (modulatorStep_adopts (adoptAudio s)).pendAud (adoptAudio_pendAud s)

/-- The chain of a tick in terms of the source's answer, silence where there is none (R241, R290). -/
theorem tickAudio_eq (s : State) :
    tickAudio s = condition (tickFront s).ac.audio s.cond ((drawAudio (tickFront s)).1.getD ⟨0, 0⟩) := by
  rw [tickAudio, fetchFrame_ac, fetchFrame_cond, fetchFrame_fst, tickFront_cond]

/-- The contributions of a tick with the carriers read from the rules' tables (R271 to R273). -/
theorem tickParts_eq (s : State) : tickParts s =
    { mono := mulq15t (tickAudio s).mf 26214
      stereo := mulq15t (mulq15t (tickAudio s).sf (sineTwelfth (2 * s.modu.phase.val))) 26214
      pilot := mulq15t (sineTwelfth s.modu.phase.val * 256) 2949
      rds := mulq15t (rdsSample (tickFront s) * 256) (tickFront s).ac.audio.rdsLevel.toNat } := by
  rw [tickParts, contributions, (tickFront_counters s).2, sub38_eq_sineTwelfth, t12_eq_sineTwelfth]
  rfl

/-- The counts a bit is sent with: a group boundary counts its group, and neither place counts a tick (R213). -/
theorem bitSource_cnt (s : State) : (bitSource s).cnt =
    ⟨if s.modu.bitIdx = 0 then s.cnt.groupCount + 1 else s.cnt.groupCount, s.cnt.tick⟩ := by
  unfold bitSource
  split_ifs
  · simp [groupBoundary]
  · rfl

/-- The counts after a tick's front: a group more where a bit step meets the group boundary (R212, R213, R290). -/
theorem tickFront_cnt (s : State) : (tickFront s).cnt =
    ⟨if s.modu.bitPh = 0 ∧ s.modu.bitIdx = 0 then s.cnt.groupCount + 1 else s.cnt.groupCount, s.cnt.tick⟩ := by
  rw [tickFront_eq]
  by_cases hph : s.modu.bitPh = 0
  · rw [if_pos hph, bitStep_eq_shiftBit, State.setModu_cnt, bitSource_cnt, adoptAudio_modu, adoptAudio_cnt]
    simp only [hph, true_and]
  · rw [if_neg hph, adoptAudio_cnt, if_neg fun h => hph h.1]

/-- BITIDX after a tick's front: one bit on where BITPH is 0 (R212, R290). -/
theorem tickFront_bitIdx (s : State) : (tickFront s).modu.bitIdx.val =
    if s.modu.bitPh = 0 then (s.modu.bitIdx.val + 1) % 104 else s.modu.bitIdx.val := by
  rw [tickFront_eq]
  split_ifs
  · rw [bitStep_eq_shiftBit, State.setModu_modu, bitSource_modu, shiftBit_bitIdx, adoptAudio_modu]
  · rw [adoptAudio_modu]

/-- PHASE and BITPH count every tick, each in its own circle (R291). -/
theorem tick_phase_bitPh (s : State) : (tick s).2.modu.phase.val = (s.modu.phase.val + 1) % 12 ∧
    (tick s).2.modu.bitPh.val = (s.modu.bitPh.val + 1) % 192 := by
  obtain ⟨-, -, -, -, -, -, hmodu, -⟩ := tick_parts s
  obtain ⟨hbitPh, hphase⟩ := tickFront_counters s
  rw [hmodu, hbitPh, hphase]
  exact ⟨Fin.val_add .., Fin.val_add ..⟩

/-- Only PHASE and BITPH move in the modulator after a tick's front (R290, R291). -/
theorem tick_modu (s : State) : (tick s).2.modu =
    { (tickFront s).modu with phase := (tick s).2.modu.phase, bitPh := (tick s).2.modu.bitPh } := by
  obtain ⟨-, -, -, -, -, -, hmodu, -⟩ := tick_parts s
  rw [hmodu]

/-- TICK counts every tick, GROUP_COUNT is what the front left (R291). -/
theorem tick_cnt (s : State) : (tick s).2.cnt = ⟨(tickFront s).cnt.groupCount, s.cnt.tick + 1⟩ := by
  obtain ⟨-, -, -, -, -, -, -, hcnt, -⟩ := tick_parts s
  rw [hcnt, tickFront_cnt]

/-- Settles O45: the row is the tick of a stream, whose parts are those of its front, of the chain and of the contributions. -/
theorem tickRowRunsTheChain : Obligations.TickRowRunsTheChain := by
  unfold Obligations.TickRowRunsTheChain
  refine fun s => ⟨exec_tick_idle, fun hs => ?_⟩
  obtain ⟨hsample, hac, hflags, hcur, hcond, hacc, -, -, hworld⟩ := tick_parts s
  obtain ⟨hctl, herr⟩ := tick_ctl s
  obtain ⟨hphase, hbitPh⟩ := tick_phase_bitPh s
  have hparts := tickParts_eq s
  have hpeak := (congrArg (·.peak.toNat) hacc).trans (peakWith_toNat (comp_natAbs_lt _))
  have hpilot := (congrArg (·.pkPilot.toNat) hacc).trans (peakWith_toNat (pilot_natAbs_lt _))
  have hpend := (congrArg (·.pendAud) hflags).trans (tickFront_pendAud s)
  refine ⟨sampleRow tick s, adoptAudio s, tickFront s, _, _, tickAudio s, (tickParts s).mono, (tickParts s).stereo,
    (tickParts s).pilot, (tickParts s).rds, (tickParts s).comp, exec_tick_streaming hs, rfl, fun hzero => ?bitStep,
    fun hne => ?noBitStep, rfl, tickAudio_eq s, congrArg (·.mono) hparts, congrArg (·.stereo) hparts,
    congrArg (·.pilot) hparts, congrArg (·.rds) hparts, rfl, ?shown, hcond, herr, hctl, hpeak, ?sumsq, congrArg (·.n) hacc,
    congrArg (·.pkMono) hacc, congrArg (·.pkStereo) hacc, hpilot, congrArg (·.pkRds) hacc, hphase, hbitPh, tick_modu s,
    tick_cnt s, hcur, hflags, hac, hworld, hpend, tick_sh s, tick_pe s, tick_conv s, tick_pipe s, tick_mon s, tick_par s⟩
  case bitStep => rw [exec_bit, tickFront_eq, if_pos hzero]
  case noBitStep => rw [tickFront_eq, if_neg hne]
  case shown =>
    rw [sampleRow_eq, State.setOut_out, tick_out, hsample]
    rfl
  case sumsq =>
    rw [sq]
    exact congrArg (·.sumsq) hacc

end Sys2Proof.Machine

/-! ### The counters and TICK (44_multiplex_composer.md R291, R292) -/

namespace Sys2Proof.Machine

/-- BITIDX in a circle counts the bits begun; a bit begins at every 192nd tick (R291). -/
theorem bitIdx_count_succ {tick bitPh bitIdx : Nat} (hph : bitPh = tick % 192) (hidx : bitIdx = (tick + 191) / 192 % 104) :
    (if bitPh = 0 then (bitIdx + 1) % 104 else bitIdx) = (tick + 1 + 191) / 192 % 104 := by
  split_ifs <;> omega

/-- GROUP_COUNT counts the groups begun; a group begins where a bit begins and BITIDX is 0 (R291). -/
theorem group_count_succ {tick bitPh bitIdx groups : Nat} (hph : bitPh = tick % 192) (hidx : bitIdx = (tick + 191) / 192 % 104)
    (hgroups : groups = (tick + 19967) / 19968 % 2 ^ 32) :
    (if bitPh = 0 ∧ bitIdx = 0 then (groups + 1) % 2 ^ 32 else groups) = (tick + 1 + 19967) / 19968 % 2 ^ 32 := by
  split_ifs <;> omega

theorem tick_groupCount (s : State) : (tick s).2.cnt.groupCount.toNat =
    if s.modu.bitPh.val = 0 ∧ s.modu.bitIdx.val = 0 then (s.cnt.groupCount.toNat + 1) % 2 ^ 32 else s.cnt.groupCount.toNat := by
  rw [tick_cnt, tickFront_cnt]
  simp only [Fin.val_eq_zero_iff]
  split_ifs
  · exact BitVec.toNat_add ..
  · rfl

theorem tick_bitIdx (s : State) : (tick s).2.modu.bitIdx.val =
    if s.modu.bitPh.val = 0 then (s.modu.bitIdx.val + 1) % 104 else s.modu.bitIdx.val := by
  rw [tick_modu]
  simpa only [Fin.val_eq_zero_iff] using tickFront_bitIdx s

/-- TICK gains one, short of its wrap (R291; log 24). -/
theorem tick_tick_toNat {s : State} (h : s.cnt.tick.toNat + 1 < 2 ^ 64) : (tick s).2.cnt.tick.toNat = s.cnt.tick.toNat + 1 := by
  rw [tick_cnt]
  exact BitVec.toNat_add_of_lt h

/-- A tick keeps the counters in step with TICK, short of its wrap (R291; log 24). -/
theorem InStep.tick {s : State} (h : InStep s) (hwrap : s.cnt.tick.toNat + 1 < 2 ^ 64) : InStep (tick s).2 := by
  obtain ⟨hphase, hbitPh⟩ := tick_phase_bitPh s
  constructor <;> rw [tick_tick_toNat hwrap]
  · rw [hphase, h.phase, Nat.mod_add_mod]
  · rw [hbitPh, h.bitPh, Nat.mod_add_mod]
  · rw [tick_bitIdx]
    exact bitIdx_count_succ h.bitPh h.bitIdx
  · rw [tick_groupCount]
    exact group_count_succ h.bitPh h.bitIdx h.groups

/-- Showing a sample moves no counter. -/
theorem InStep.sampleRow {run : State → Int × State} {s : State} (h : InStep (run s).2) : InStep (sampleRow run s) :=
  ⟨h.phase, h.bitPh, h.bitIdx, h.groups⟩

/-- The row counts one while STREAMING and none in IDLE, and either way the counters stay in step (R290, R291; log 24). -/
theorem exec_tick_inStep {s t : State} (hs : InStep s) (hwrap : s.cnt.tick.toNat + 1 < 2 ^ 64) (h : exec .tick s = .next t) :
    InStep t ∧ t.cnt.tick.toNat = s.cnt.tick.toNat + (if s.pipe.stream = .streaming then 1 else 0) := by
  obtain ⟨hidle, rfl⟩ | ⟨hstream, rfl⟩ := exec_tick_cases h
  · rw [hidle]
    exact ⟨hs, rfl⟩
  · rw [if_pos hstream]
    exact ⟨(hs.tick hwrap).sampleRow, tick_tick_toNat hwrap⟩

end Sys2Proof.Machine

/-! ### No step puts a row before the machine (44_multiplex_composer.md R290; log 2, log 3) -/

namespace Sys2Proof.Machine

@[simp] theorem bumpDraws_row (s : State) : (bumpDraws s).world.row = s.world.row := rfl

@[simp] theorem drawAudio_row (s : State) : (drawAudio s).2.world.row = s.world.row := by unfold drawAudio; split <;> simp

@[simp] theorem drawSink_row (s : State) : (drawSink s).2.world.row = s.world.row := by unfold drawSink; split <;> simp

@[simp] theorem sinkOpen_row (rate : Word) (live : Bool) (s : State) : (sinkOpen rate live s).2.world.row = s.world.row := by
  simp [sinkOpen]

@[simp] theorem schedAdvance_row (s : State) : (schedAdvance s).world.row = s.world.row := by
  unfold schedAdvance; dsimp only; split <;> simp

@[simp] theorem walkSchedule_row (n : Nat) (s : State) : (walkSchedule n s).2.world.row = s.world.row := by
  induction n generalizing s with
  | zero => rfl
  | succ n ih => rw [walkSchedule_succ]; split <;> simp [ih]

@[simp] theorem selectSlot_row (s : State) : (selectSlot s).2.world.row = s.world.row := by simp [selectSlot]

@[simp] theorem buildSlot_row (c : BitVec 2) (s : State) : (buildSlot c s).2.world.row = s.world.row := by
  unfold buildSlot; split_ifs <;> simp

@[simp] theorem runSlot_row (c : BitVec 2) (s : State) : (runSlot c s).2.world.row = s.world.row := by simp [runSlot]

@[simp] theorem nextGroup_row (s : State) : (nextGroup s).2.world.row = s.world.row := by
  unfold nextGroup; dsimp only; split <;> simp

@[simp] theorem bitSource_row (s : State) : (bitSource s).world.row = s.world.row := by
  unfold bitSource; split <;> simp [groupBoundary]

@[simp] theorem bitStep_row (s : State) : (bitStep s).world.row = s.world.row := by simp [bitStep_eq_shiftBit]

@[simp] theorem tickFront_row (s : State) : (tickFront s).world.row = s.world.row := by rw [tickFront_eq]; split <;> simp

@[simp] theorem tick_row (s : State) : (tick s).2.world.row = s.world.row := by
  obtain ⟨-, -, -, -, -, -, -, -, hworld⟩ := tick_parts s
  rw [hworld, drawAudio_row, tickFront_row]

@[simp] theorem rsOut_row (s : State) : (rsOut s).2.world.row = s.world.row :=
  rsOut_induction (P := fun t => t.world.row = s.world.row) (fun _ _ h => h) (fun t h => (tick_row t).trans h) s rfl

@[simp] theorem countTake_row (s : State) : (countTake s).world.row = s.world.row := by
  rw [countTake_eq, bufferComplete_eq]; split_ifs <;> simp

@[simp] theorem sinkTake_row (s : State) : (sinkTake s).2.world.row = s.world.row := by
  rw [sinkTake_snd]; split_ifs <;> simp

@[simp] theorem sinkFail_row (s : State) : (sinkFail s).world.row = s.world.row := by unfold sinkFail; split <;> simp

@[simp] theorem commit_row (s : State) : (commit s).world.row = s.world.row := by
  rcases commit_cases s with ⟨-, h⟩ | ⟨-, -, h⟩ | ⟨-, -, h⟩ <;> simp [h, snapshot]

@[simp] theorem start_row (s : State) : (start s).world.row = s.world.row := by
  rcases start_cases s with ⟨c, code, -, h⟩ | ⟨-, ⟨-, h⟩ | ⟨-, h⟩ | ⟨-, h⟩⟩ <;> simp [h]

@[simp] theorem stop_row (s : State) : (stop s).world.row = s.world.row := by
  rcases stop_cases s with ⟨-, h⟩ | ⟨-, -, h⟩ | ⟨-, -, h⟩ <;> simp [h]

@[simp] theorem hardwareReset_world (s : State) : (hardwareReset s).world = s.world := rfl

@[simp] theorem softReset_row (s : State) : (softReset s).world.row = s.world.row := by unfold softReset; split <;> simp

@[simp] theorem doCommand_row (op : BitVec 8) (s : State) : (doCommand op s).world.row = s.world.row := by
  unfold doCommand; split_ifs <;> simp [badCommand]

@[simp] theorem memWrite_row (a : RegIndex) (v : Word) (s : State) : (memWrite a v s).world.row = s.world.row := by
  rcases memWrite_cases a v s with h | ⟨-, h⟩ | ⟨c, h⟩ | ⟨r, -, h⟩ <;> simp [h]

/-- What an arm answers is its next state. -/
theorem holds_of_next {P : State → Prop} {t u : State} (h : (.next u : Host.Outcome State Fault Refusal) = .next t)
    (hu : P u) : P t := by
  obtain rfl := Host.Outcome.next.inj h
  exact hu

theorem row_of_next {s t u : State} (h : (.next u : Host.Outcome State Fault Refusal) = .next t)
    (hu : u.world.row = s.world.row) : t.world.row = s.world.row :=
  holds_of_next (P := fun t => t.world.row = s.world.row) h hu

/-- No instruction fills or empties the place of a row; only taking the request does (log 2). -/
theorem exec_row {i : Instr} {s t : State} (h : exec i s = .next t) : t.world.row = s.world.row := by
  cases i with
  | rd | nop | block | group | group2A | group4A | hwReset | cmdReserved => exact row_of_next h rfl
  | wr a d => exact row_of_next h (memWrite_row a d s)
  | commit => exact row_of_next h (commit_row s)
  | start => exact row_of_next h (start_row s)
  | stop => exact row_of_next h (stop_row s)
  | softReset => exact row_of_next h (softReset_row s)
  | slot0A | slot2A | slotReserved => exact row_of_next h (runSlot_row _ s)
  | slot4A =>
    change execSlot4A s = .next t at h
    unfold execSlot4A at h
    split at h
    · exact row_of_next h (runSlot_row _ s)
    · exact row_of_next h (by simp)
  | group0A => exact row_of_next h (by simp)
  | tick =>
    obtain ⟨-, rfl⟩ | ⟨-, rfl⟩ := exec_tick_cases h
    · rfl
    · exact tick_row s
  | bit => exact row_of_next h (bitStep_row s)
  | nextGroup => exact row_of_next h (nextGroup_row s)
  | rsOut =>
    refine row_of_next h ?_
    split
    · exact rsOut_row s
    · rfl
  | sinkTake => exact row_of_next h (sinkTake_row s)
  | sinkFail => exact row_of_next h (sinkFail_row s)

/-- A step takes the row put before the machine, if there is one, and puts none there (log 2). -/
theorem step_row {s t : State} (h : step s = .next t) : t.world.row = none := by
  obtain ⟨i, hi⟩ := exists_exec_of_step h
  rw [exec_row hi, takeRequest_row]

end Sys2Proof.Machine

/-! ### What the hardware's own steps do to the engine (44_multiplex_composer.md R290, 00_scope.md R16) -/

namespace Sys2Proof.Machine

/-- The modulator, the conditioning chain, the accumulators and the counters are in `t` as they are in `s`. -/
structure EngineStill (s t : State) : Prop where
  modu : t.modu = s.modu := by simp
  cond : t.cond = s.cond := by simp
  acc : t.acc = s.acc := by simp
  cnt : t.cnt = s.cnt := by simp

/-- The same four have the values a stream reset and a hardware reset give them (10_state.md R61, R62). -/
structure EngineReset (t : State) : Prop where
  modu : t.modu = Modulator.reset := by rfl
  cond : t.cond = Conditioning.reset := by rfl
  acc : t.acc = Accumulators.reset := by rfl
  cnt : t.cnt = Counters.reset := by rfl

/-- Outside a stream's takes the engine is left alone or reset. -/
def EngineRests (s t : State) : Prop := EngineStill s t ∨ EngineReset t

theorem beginStream_engineReset (s : State) : EngineReset (beginStream s) := {}

theorem hardwareReset_engineReset (s : State) : EngineReset (hardwareReset s) := {}

theorem commit_engineStill (s : State) : EngineStill s (commit s) := by
  rcases commit_cases s with ⟨-, h⟩ | ⟨-, -, h⟩ | ⟨-, -, h⟩ <;> rw [h]
  · exact {}
  · rw [adopt_snapshot_eq]
    exact {}
  · exact ⟨rfl, rfl, rfl, rfl⟩

theorem stop_engineStill (s : State) : EngineStill s (stop s) := by
  rcases stop_cases s with ⟨-, h⟩ | ⟨-, -, h⟩ | ⟨-, -, h⟩ <;> rw [h] <;> exact {}

theorem sinkFail_engineStill (s : State) : EngineStill s (sinkFail s) := by
  unfold sinkFail
  split <;> exact {}

/-- START resets the engine once the sink is open, and leaves it alone where it is refused (40_host_operations.md R146). -/
theorem start_engineRests (s : State) : EngineRests s (start s) := by
  rcases start_cases s with ⟨c, code, -, h⟩ | ⟨-, ⟨-, h⟩ | ⟨-, h⟩ | ⟨-, h⟩⟩ <;> rw [h]
  · exact .inl {}
  · exact .inr (beginStream_engineReset _)
  · exact .inl {}
  · exact .inl {}

theorem softReset_engineReset (s : State) : EngineReset (softReset s) := by
  unfold softReset
  split <;> exact hardwareReset_engineReset _

theorem doCommand_engineRests (op : BitVec 8) (s : State) : EngineRests s (doCommand op s) := by
  unfold doCommand
  split
  · exact .inl {}
  split
  · exact .inl (commit_engineStill s)
  split
  · exact start_engineRests s
  split
  · exact .inl (stop_engineStill s)
  split
  · exact .inr (softReset_engineReset s)
  · exact .inl ⟨rfl, rfl, rfl, rfl⟩

theorem memWrite_engineRests (a : RegIndex) (v : Word) (s : State) : EngineRests s (memWrite a v s) := by
  rcases memWrite_cases a v s with h | ⟨-, h⟩ | ⟨c, h⟩ | ⟨r, -, h⟩ <;> rw [h]
  · exact .inl {}
  · exact doCommand_engineRests _ s
  · exact .inl {}
  · exact .inl {}

theorem takeRequest_engineStill (s : State) : EngineStill s (takeRequest s).2 := by
  rw [takeRequest_snd]
  exact {}

theorem EngineStill.trans {s t u : State} (h : EngineStill s t) (k : EngineStill t u) : EngineStill s u :=
  ⟨k.modu.trans h.modu, k.cond.trans h.cond, k.acc.trans h.acc, k.cnt.trans h.cnt⟩

/-- Without a row put before the machine a step runs an instruction of one of the agents' four kinds (00_scope.md R16). -/
theorem exists_agent_exec_of_step {s t : State} (hrow : s.world.row = none) (h : step s = .next t) :
    ∃ i, exec i (takeRequest s).2 = .next t ∧
      (i = .sinkTake ∨ i = .sinkFail ∨ i = .hwReset ∨ (∃ a d, i = .rd a d) ∨ (∃ a d, i = .wr a d)) := by
  obtain ⟨a, ha⟩ := takeRequest_of_no_row hrow
  obtain ⟨i, hdecode, hkind⟩ := decode_requestOfAgent a
  exact ⟨i, (step_of_takeRequest (Prod.ext ha rfl) hdecode).symm.trans h, hkind⟩

/-- In IDLE a take only answers on its port, so the engine is left alone (46_delivery_pipeline.md R337). -/
theorem exec_sinkTake_engineRests {s t : State} (hs : s.pipe.stream = .idle) (h : exec .sinkTake s = .next t) :
    EngineRests s t := by
  refine holds_of_next h (.inl ?_)
  rw [sinkTake_snd, if_pos hs]
  exact {}

/-- A hardware step leaves the engine alone or resets it, unless it is a take of a running stream (R290). -/
theorem step_engine_cases {s t : State} (hrow : s.world.row = none) (h : step s = .next t) :
    EngineRests (takeRequest s).2 t ∨
      ((takeRequest s).2.pipe.stream = .streaming ∧ exec .sinkTake (takeRequest s).2 = .next t) := by
  obtain ⟨i, hi, rfl | rfl | rfl | ⟨a, d, rfl⟩ | ⟨a, d, rfl⟩⟩ := exists_agent_exec_of_step hrow h
  · cases hs : (takeRequest s).2.pipe.stream with
    | idle => exact .inl (exec_sinkTake_engineRests hs hi)
    | streaming => exact .inr ⟨rfl, hi⟩
  · exact .inl (holds_of_next hi (.inl (sinkFail_engineStill _)))
  · exact .inl (holds_of_next hi (.inr (hardwareReset_engineReset _)))
  · exact .inl (holds_of_next hi (.inl {}))
  · exact .inl (holds_of_next hi (memWrite_engineRests a d _))

/-- Settles O46: a tick moves each counter as TICK says, and of the agents' steps only a take of a running stream makes one. -/
theorem tickKeepsTheCountersInStep : Obligations.TickKeepsTheCountersInStep := by
  unfold Obligations.TickKeepsTheCountersInStep
  refine ⟨fun _ _ => exec_tick_inStep, fun _ _ => step_row, fun s t hrow h => ?_⟩
  have htaken := takeRequest_engineStill s
  obtain (hstill | hreset) | ⟨hstream, htake⟩ := step_engine_cases hrow h
  · obtain ⟨hmodu, hcond, hacc, hcnt⟩ := htaken.trans hstill
    exact .inl ⟨hmodu, hcond, hacc, hcnt⟩
  · exact .inr (.inl ⟨hreset.modu, hreset.cond, hreset.acc, hreset.cnt⟩)
  · rw [(takeRequest_untouched s).pipe] at hstream
    exact .inr (.inr ⟨hstream, htake⟩)

end Sys2Proof.Machine

/-! ### The rate converter (45_rate_converter.md R303, R304) -/

namespace Sys2Proof.Machine

/-! #### One turn of the loop -/

/-- The push moves RS_HIST entry by entry: the input at 0, the taps below it one place on, the rest where it was (R304). -/
theorem pushHist_getElem (h : Vector Sample 64) (t : Nat) (x : Sample) (k : Fin 64) :
    (pushHist h t x)[k] = if k.val = 0 then x else if k.val < t then h[k.val - 1]'(by omega) else h[k] := by
  simp [pushHist]

/-- A turn pushes the tick's sample (R304). -/
theorem rsInput_hist (s : State) : (rsInput s).conv.hist = pushHist s.conv.hist s.conv.entry.t.val (toSample (tick s).1) := by
  simp [rsInput]

/-- Entry 0 of the history is the tick's sample (R304). -/
theorem rsInput_newest (s : State) : (rsInput s).conv.hist[(0 : Fin 64)] = toSample (tick s).1 := by
  rw [rsInput_hist, pushHist_getElem]
  rfl

@[simp] theorem rsInput_entry (s : State) : (rsInput s).conv.entry = s.conv.entry := (rsInput_conv s).1

/-- A turn the loop makes takes RS_L off RS_POS, exactly (R304). -/
theorem rsInput_pos_add {s : State} (h : s.conv.entry.l.val ≤ s.conv.pos.toNat) :
    (rsInput s).conv.pos.toNat + s.conv.entry.l.val = s.conv.pos.toNat := by
  obtain ⟨-, hpos, -⟩ := rsInput_conv s
  have hlt := s.conv.pos.isLt
  omega

theorem rsInput_tick (s : State) : (rsInput s).cnt.tick = s.cnt.tick + 1 := by
  obtain ⟨-, -, hcnt⟩ := rsInput_conv s
  rw [hcnt, tick_cnt]

/-- What the ports showed in between does not matter once they are put back. -/
theorem setConv_eq_setOut_setConv_setOut (s : State) (c : Converter) (o : Outputs) :
    s.setConv c = ((s.setOut o).setConv c).setOut s.out := rfl

/-- Settles O52: a turn is a tick and a push, and the TICK row differs from it in the converter and the sample shown only. -/
theorem historyShiftsByOne : Obligations.HistoryShiftsByOne := by
  unfold Obligations.HistoryShiftsByOne
  refine fun s => ⟨fun k => ?hist, rsInput_entry s, rsInput_pos_add,
    fun hs => ⟨sampleRow tick s, exec_tick_streaming hs, ?shown, ?rest⟩⟩
  case hist =>
    rw [rsInput_hist, pushHist_getElem]
    rfl
  case shown => rw [rsInput_newest, sampleRow_eq, State.setOut_out, tick_out]
  case rest =>
    rw [sampleRow_eq, ← tick_out s]
    exact setConv_eq_setOut_setConv_setOut (tick s).2 _ _

/-! #### The loop -/

/-- What `n` turns leave of RS_POS, as long as it lasts, and of TICK, with the bank entry in place (R304). -/
theorem rsInputs_conv (n : Nat) (s : State) (h : n * s.conv.entry.l.val ≤ s.conv.pos.toNat) :
    (rsInputs n s).conv.entry = s.conv.entry ∧
      (rsInputs n s).conv.pos.toNat + n * s.conv.entry.l.val = s.conv.pos.toNat ∧
      (rsInputs n s).cnt.tick = s.cnt.tick + BitVec.ofNat 64 n := by
  induction n generalizing s with
  | zero => simp [rsInputs]
  | succ n ih =>
    rw [Nat.succ_mul] at h ⊢
    have hturn := rsInput_pos_add (s := s) (by omega)
    obtain ⟨hentry, hpos, htick⟩ := ih (rsInput s) (by rw [rsInput_entry]; omega)
    rw [rsInput_entry] at hentry hpos
    refine ⟨hentry, ?_, ?_⟩
    · rw [rsInputs]
      omega
    · rw [rsInputs, htick, rsInput_tick, BitVec.ofNat_add, BitVec.add_assoc, BitVec.add_comm 1]
      rfl

/-- The loop, given turns enough, makes floor(RS_POS / RS_L) of them (R304). -/
theorem rsPull_eq_rsInputs (n : Nat) (s : State) (hn : s.conv.pos.toNat ≤ n) :
    rsPull n s = rsInputs (s.conv.pos.toNat / s.conv.entry.l.val) s := by
  induction n generalizing s with
  | zero =>
    rw [Nat.le_zero.mp hn, Nat.zero_div]
    rfl
  | succ n ih =>
    rw [rsPull]
    split_ifs with hle
    · have hl := s.conv.entry.l.property
      have hturn := rsInput_pos_add hle
      have hsub : (rsInput s).conv.pos.toNat = s.conv.pos.toNat - s.conv.entry.l.val := by omega
      rw [ih (rsInput s) (by omega), hsub, rsInput_entry, Nat.div_eq_sub_div hl hle]
      rfl
    · rw [Nat.div_eq_of_lt (by omega)]
      rfl

/-! #### The output -/

/-- The dot product counted down from RS_T is the sum over the taps (R304). -/
theorem dotFrom_eq_sum (e : BankEntry) (h : Vector Sample 64) (p n : Nat) :
    dotFrom e h p n = ((List.range n).map fun k => coefAt e (p + k * e.l.val) * (h.toList.getD k 0).toInt).sum := by
  induction n with
  | zero => rfl
  | succ n ih => rw [dotFrom, ih, List.range_succ, List.map_append, List.sum_append, List.map_singleton, List.sum_singleton]

theorem dotFrom_eq_tapSum (e : BankEntry) (h : Vector Sample 64) (p : Nat) : dotFrom e h p e.t.val = tapSum e h p :=
  dotFrom_eq_sum e h p e.t.val

/-- The state in which rs_out forms its output: after the floor(RS_POS / RS_L) turns of its loop (R304). -/
def rsPulled (s : State) : State := rsInputs (s.conv.pos.toNat / s.conv.entry.l.val) s

/-- rs_out is its loop, the tap sum over the history then held, and RS_M more on RS_POS (R304). -/
theorem rsOut_eq (s : State) : rsOut s =
    (sat24 ((tapSum (rsPulled s).conv.entry (rsPulled s).conv.hist (rsPulled s).conv.pos.toNat + 16384) / 32768),
      (rsPulled s).setConv { (rsPulled s).conv with
        pos := BitVec.ofNat 11 ((rsPulled s).conv.pos.toNat + (rsPulled s).conv.entry.m) }) := by
  rw [rsOut, rsPull_eq_rsInputs _ s le_rfl, dotFrom_eq_tapSum]
  rfl

/-- After the loop RS_POS is the phase, and TICK has counted its turns (R303, R304). -/
theorem rsPulled_conv (s : State) :
    (rsPulled s).conv.entry = s.conv.entry ∧ (rsPulled s).conv.pos.toNat = s.conv.pos.toNat % s.conv.entry.l.val ∧
      (rsPulled s).cnt.tick = s.cnt.tick + BitVec.ofNat 64 (s.conv.pos.toNat / s.conv.entry.l.val) := by
  obtain ⟨hentry, hpos, htick⟩ := rsInputs_conv _ s (Nat.div_mul_le_self _ _)
  have hdivmod := Nat.div_add_mod' s.conv.pos.toNat s.conv.entry.l.val
  exact ⟨hentry, by rw [rsPulled]; omega, htick⟩

/-- The control registers keep all but ERR through the ticks of rs_out (R304, 44_multiplex_composer.md R290). -/
theorem rsOut_ctl (s : State) : (rsOut s).2.ctl = { s.ctl with err := (rsOut s).2.ctl.err } :=
  rsOut_induction (P := fun t => t.ctl = { s.ctl with err := t.ctl.err }) (fun _ _ h => h)
    (fun t h => by rw [(tick_ctl t).1, h]) s rfl

/-! #### The row -/

theorem exec_rsOut_of_not_live {s : State} (h : s.pipe.stream = .idle ∨ s.pipe.liveAct = false) : exec .rsOut s = .next s :=
  execRsOut_of_not_live h

theorem exec_rsOut_live {s : State} (hs : s.pipe.stream = .streaming) (hl : s.pipe.liveAct = true) :
    exec .rsOut s = .next (sampleRow rsOut s) := execRsOut_live hs hl

/-- Settles O51: the row is one rs_out, and rs_out is its turns, the tap sum after them and the step of RS_POS. -/
theorem rsOutRowResamples : Obligations.RsOutRowResamples := by
  unfold Obligations.RsOutRowResamples
  refine fun s => ⟨exec_rsOut_of_not_live, fun hs hl => ?_⟩
  obtain ⟨hentry, hpos, htick⟩ := rsPulled_conv s
  have hstate := congrArg Prod.snd (rsOut_eq s)
  have hconv := congrArg State.conv hstate
  refine ⟨sampleRow rsOut s, rsPulled s, exec_rsOut_live hs hl, rfl, hpos, ?state, congrArg (·.hist) hconv, ?ticks,
    (congrArg (·.entry) hconv).trans hentry, ?position, ?shown, rsOut_sh s, rsOut_pe s, rsOut_pipe s, rsOut_mon s, rsOut_par s,
    rsOut_ctl s, (rsOut_conserves s).cfgValid⟩
  case state =>
    rw [sampleRow_eq, hstate]
    rfl
  case ticks => exact (congrArg (·.cnt.tick) hstate).trans htick
  case position =>
    refine (congrArg (·.pos) hconv).trans ?_
    rw [← hpos, ← hentry]
    rfl
  case shown =>
    rw [sampleRow_eq, State.setOut_out, State.setOut_conv, rsOut_out, ← hpos, rsOut_eq]
    rfl

end Sys2Proof.Machine

/-! ### Takes and the sink's failure (46_delivery_pipeline.md R336 to R342) -/

namespace Sys2Proof.Machine

theorem exec_sinkTake (s : State) :
    exec .sinkTake s = .next ((sinkTake s).2.setOut { (sinkTake s).2.out with sample := some (sinkTake s).1 }) := rfl

theorem exec_sinkFail (s : State) : exec .sinkFail s = .next (sinkFail s) := rfl

/-- Settles O53: in IDLE the port answers and nothing runs. -/
theorem takeInIdleReturnsZero : Obligations.TakeInIdleReturnsZero := by
  unfold Obligations.TakeInIdleReturnsZero
  intro s hs
  rw [exec_sinkTake, sinkTake, hs]

/-- What the engine runs for one take: an rs_out in live mode, a tick in file mode (R336). -/
def takeRun (s : State) : Int × State := if s.pipe.liveAct then rsOut s else tick s

/-- The sample in the sink's second form: binary32 in live mode, FILE_SCALE's word in file mode (30_encoding.md R115, R116). -/
def takeWord (s : State) (v : Int) : Word := if s.pipe.liveAct then f32OfQ v else fileWord s.par.fileScale v

theorem takeRun_live {s : State} (h : s.pipe.liveAct = true) : takeRun s = rsOut s := if_pos h

theorem takeRun_file {s : State} (h : s.pipe.liveAct = false) : takeRun s = tick s := if_neg (by rw [h]; decide)

theorem takeWord_live {s : State} (h : s.pipe.liveAct = true) (v : Int) : takeWord s v = f32OfQ v := if_pos h

theorem takeWord_file {s : State} (h : s.pipe.liveAct = false) (v : Int) : takeWord s v = fileWord s.par.fileScale v :=
  if_neg (by rw [h]; decide)

/-- A take of a running stream is the engine's run, its sample in both forms, and the count (R336). -/
theorem sinkTake_streaming {s : State} (hs : s.pipe.stream = .streaming) :
    sinkTake s = ((toSample (takeRun s).1, takeWord s (takeRun s).1), countTake (takeRun s).2) := by
  cases hmode : s.pipe.liveAct
  · rw [sinkTake_file hs hmode, takeRun_file hmode, takeWord_file hmode]
  · rw [sinkTake_live hs hmode, takeRun_live hmode, takeWord_live hmode]

@[simp] theorem takeRun_pipe (s : State) : (takeRun s).2.pipe = s.pipe := by unfold takeRun; split <;> simp
@[simp] theorem takeRun_out (s : State) : (takeRun s).2.out = s.out := by unfold takeRun; split <;> simp

/-- A take that leaves room in the buffer counts the sample (R336). -/
theorem countTake_of_room {s : State} (hroom : s.pipe.bufPos + 1 ≠ s.pipe.bufLenAct) :
    countTake s = s.setPipe { s.pipe with bufPos := s.pipe.bufPos + 1 } := by
  rw [countTake_eq, if_neg hroom]

/-- A take that fills the buffer completes it (R336). -/
theorem countTake_of_full {s : State} (hfull : s.pipe.bufPos + 1 = s.pipe.bufLenAct) : countTake s = bufferComplete s := by
  rw [countTake_eq, if_pos hfull, bufferComplete_setPipe_bufPos]

theorem exec_sinkTake_of_room {s : State} (hs : s.pipe.stream = .streaming) (hroom : s.pipe.bufPos + 1 ≠ s.pipe.bufLenAct) :
    exec .sinkTake s = .next (((takeRun s).2.setPipe { s.pipe with bufPos := s.pipe.bufPos + 1 }).setOut
      { s.out with sample := some (toSample (takeRun s).1, takeWord s (takeRun s).1) }) := by
  rw [exec_sinkTake, sinkTake_streaming hs, countTake_of_room (by rwa [takeRun_pipe])]
  simp only [State.setPipe_out, takeRun_pipe, takeRun_out]

/-- Settles O54: the take inside a buffer, by mode. -/
theorem takeDeliversOneSample : Obligations.TakeDeliversOneSample := by
  unfold Obligations.TakeDeliversOneSample
  intro s hs hroom
  rw [exec_sinkTake_of_room hs hroom]
  refine ⟨fun hfile => ?_, fun hlive => ?_⟩
  · rw [takeRun_file hfile, takeWord_file hfile, toSample]
  · rw [takeRun_live hlive, takeWord_live hlive, toSample]

/-- A buffer ended, but for the STOP that may wait: the latch, the cleared accumulators, the empty buffer (R339). -/
def bufferLatched (s : State) : State :=
  ((s.setPipe { s.pipe with bufPos := 0 }).setMon (latchMonitors s)).setAcc Accumulators.reset

theorem bufferComplete_of_no_stop {s : State} (h : s.pipe.stopReq = false) : bufferComplete s = bufferLatched s := by
  rw [bufferComplete_eq, if_neg (by rw [h]; decide)]
  rfl

theorem bufferComplete_of_stop {s : State} (h : s.pipe.stopReq = true) : bufferComplete s = teardown (bufferLatched s) := by
  rw [bufferComplete_eq, if_pos h]
  rfl

/-- The sample on the port has no part in a teardown. -/
theorem TornDown.setSample {s t : State} (h : TornDown s t) (x : Option (Sample × Word)) :
    TornDown (s.setOut { s.out with sample := x }) (t.setOut { t.out with sample := x }) :=
  { h with release := by rw [State.setOut_out, State.setOut_out, h.release] }

/-- The state after the engine's run of a take that fills the buffer, latched, with the sample on the port. -/
def filledBuffer (s : State) : State :=
  (bufferLatched (takeRun s).2).setOut { s.out with sample := some (toSample (takeRun s).1, takeWord s (takeRun s).1) }

/-- The take that fills a buffer ends there, or tears down from there if a STOP waits (R336, R339). -/
theorem exec_sinkTake_of_full {s : State} (hs : s.pipe.stream = .streaming) (hfull : s.pipe.bufPos + 1 = s.pipe.bufLenAct) :
    (s.pipe.stopReq = false → exec .sinkTake s = .next (filledBuffer s)) ∧
      (s.pipe.stopReq = true → ∃ t, exec .sinkTake s = .next t ∧ TornDown (filledBuffer s) t) := by
  have hout : (bufferLatched (takeRun s).2).out = s.out := takeRun_out s
  rw [exec_sinkTake, sinkTake_streaming hs, countTake_of_full (by rwa [takeRun_pipe]), filledBuffer, ← hout]
  refine ⟨fun hstop => ?_, fun hstop => ⟨_, rfl, ?_⟩⟩
  · rw [bufferComplete_of_no_stop (by rwa [takeRun_pipe])]
  · rw [bufferComplete_of_stop (by rwa [takeRun_pipe])]
    exact (teardown_tornDown _).setSample _

/-- Settles O55: the statement's state is `filledBuffer`. -/
theorem takeCompletesTheBuffer : Obligations.TakeCompletesTheBuffer := by
  unfold Obligations.TakeCompletesTheBuffer
  intro s r m u hs hfull hr hm hu
  obtain rfl : r = takeRun s := hr
  obtain rfl : m = latchMonitors (takeRun s).2 := hm
  obtain rfl : u = filledBuffer s := by
    rw [hu, filledBuffer, bufferLatched, takeRun_pipe]
    rfl
  exact exec_sinkTake_of_full hs hfull

/-- Settles O56: in IDLE nothing, while STREAMING the teardown and then the error. -/
theorem sinkFailTearsDownThenReports : Obligations.SinkFailTearsDownThenReports := by
  unfold Obligations.SinkFailTearsDownThenReports
  intro s
  rw [exec_sinkFail, sinkFail]
  refine ⟨fun hs => by rw [hs], fun hs => ⟨teardown s, teardown_tornDown s, ?_⟩⟩
  rw [hs]
  simp only [raise_eq_or_mask, teardown_ctl]
  rfl

end Sys2Proof.Machine

/-! ### Restart (46_delivery_pipeline.md R347, 41_group_encoder.md R190) -/

namespace Sys2Proof.Machine

/-! #### What a tick does not read

A tick reads no control register, neither SH nor, while nothing waits, PE, not the converter and no port: each of its operations
commutes with replacing these parts. -/

/-- `s` with the parts a tick does not read taken from `t`. -/
def State.withUnread (s t : State) : State := ((((s.setCtl t.ctl).setSh t.sh).setPe t.pe).setConv t.conv).setOut t.out

/-- The two machines agree in every part a tick reads or counts in, and nothing waits for adoption. -/
structure SameEngine (s t : State) : Prop where
  ac : t.ac = s.ac
  flags : t.flags = s.flags
  cur : t.cur = s.cur
  modu : t.modu = s.modu
  cond : t.cond = s.cond
  pipe : t.pipe = s.pipe
  acc : t.acc = s.acc
  mon : t.mon = s.mon
  cnt : t.cnt = s.cnt
  par : t.par = s.par
  world : t.world = s.world
  pendRds : s.flags.pendRds = false
  pendAud : s.flags.pendAud = false

theorem SameEngine.eq_withUnread {s t : State} (h : SameEngine s t) : t = s.withUnread t := by
  cases s; cases t
  simp only [State.withUnread]
  obtain ⟨rfl, rfl, rfl, rfl, rfl, rfl, rfl, rfl, rfl, rfl, rfl, -, -⟩ := h
  rfl

@[simp] theorem State.withUnread_ac (s t : State) : (s.withUnread t).ac = s.ac := rfl
@[simp] theorem State.withUnread_cur (s t : State) : (s.withUnread t).cur = s.cur := rfl
@[simp] theorem State.withUnread_modu (s t : State) : (s.withUnread t).modu = s.modu := rfl

theorem schedGuard_withUnread (s t : State) : schedGuard (s.withUnread t) = (schedGuard s).withUnread t := by
  rw [schedGuard_eq, schedGuard_eq]
  rfl

/-- On an empty schedule the index after the advance is a free value (R181; log 6). -/
theorem schedAdvance_of_empty {s : State} (h : s.ac.station.schedLen.toNat = 0) :
    schedAdvance s = bumpDraws (s.setCur { s.cur with schedIdx := Config.freeSchedIdx s.world.draws }) := if_pos h

theorem schedAdvance_withUnread (s t : State) : schedAdvance (s.withUnread t) = (schedAdvance s).withUnread t := by
  by_cases hempty : s.ac.station.schedLen.toNat = 0
  · rw [schedAdvance_of_empty hempty, schedAdvance_of_empty (s := s.withUnread t) hempty]
    rfl
  · rw [schedAdvance_eq hempty, schedAdvance_eq (s := s.withUnread t) hempty]
    rfl

theorem walkSchedule_withUnread (n : Nat) (s t : State) :
    walkSchedule n (s.withUnread t) = ((walkSchedule n s).1, (walkSchedule n s).2.withUnread t) := by
  induction n generalizing s with
  | zero => rfl
  | succ n ih =>
    simp only [walkSchedule_succ, State.withUnread_ac, State.withUnread_cur, schedAdvance_withUnread, ih]
    split_ifs <;> rfl

theorem build0A_withUnread (s t : State) : build0A (s.withUnread t) = ((build0A s).1, (build0A s).2.withUnread t) := by
  unfold build0A
  rw [afGuard_eq, afGuard_eq]
  rfl

theorem buildSlot_withUnread (code : BitVec 2) (s t : State) :
    buildSlot code (s.withUnread t) = ((buildSlot code s).1, (buildSlot code s).2.withUnread t) := by
  unfold buildSlot
  split_ifs
  · exact build0A_withUnread s t
  all_goals rfl

theorem nextGroup_withUnread (s t : State) :
    nextGroup (s.withUnread t) = ((nextGroup s).1, (nextGroup s).2.withUnread t) := by
  have hselect : selectSlot (s.withUnread t) = ((selectSlot s).1, (selectSlot s).2.withUnread t) := by
    rw [selectSlot, schedGuard_withUnread]
    exact walkSchedule_withUnread ..
  unfold nextGroup
  rw [hselect]
  dsimp only
  split
  · exact buildSlot_withUnread ..
  · rfl

theorem adoptStation_of_none {s : State} (h : s.flags.pendRds = false) : adoptStation s = s := if_neg (by rw [h]; decide)

theorem adoptAudio_of_none {s : State} (h : s.flags.pendAud = false) : adoptAudio s = s := if_neg (by rw [h]; decide)

theorem groupBoundary_withUnread {s t : State} (h : s.flags.pendRds = false) :
    groupBoundary (s.withUnread t) = (groupBoundary s).withUnread t := by
  unfold groupBoundary
  rw [adoptStation_of_none h, adoptStation_of_none (s := s.withUnread t) h, nextGroup_withUnread]
  rfl

theorem tickFront_withUnread {s t : State} (hr : s.flags.pendRds = false) (ha : s.flags.pendAud = false) :
    tickFront (s.withUnread t) = (tickFront s).withUnread t := by
  rw [tickFront_eq, tickFront_eq, adoptAudio_of_none ha, adoptAudio_of_none (s := s.withUnread t) ha, bitStep_eq, bitStep_eq,
    groupBoundary_withUnread hr, State.withUnread_modu]
  split_ifs <;> rfl

/-! #### Two engines in step -/

/-- The audio source's answer and what it leaves of the environment depend on the environment alone (10_state.md R58). -/
theorem drawAudio_of_world {s t : State} (h : t.world = s.world) :
    (drawAudio t).1 = (drawAudio s).1 ∧ (drawAudio t).2.world = (drawAudio s).2.world := by
  unfold drawAudio bumpDraws
  rw [h]
  split <;> exact ⟨rfl, rfl⟩

/-- The sink's answer to an open request and what it leaves of the environment depend on the environment alone (10_state.md R59). -/
theorem drawSink_of_world {s t : State} (h : t.world = s.world) :
    (drawSink t).1 = (drawSink s).1 ∧ (drawSink t).2.world = (drawSink s).2.world := by
  unfold drawSink bumpDraws
  rw [h]
  split <;> exact ⟨rfl, rfl⟩

/-- A tick adopts nothing where nothing waits, and raises no commit flag (44_multiplex_composer.md R290). -/
theorem tick_flags_of_none {s : State} (hr : s.flags.pendRds = false) (ha : s.flags.pendAud = false) :
    (tick s).2.flags = s.flags := by
  obtain ⟨-, -, hflags, -⟩ := tick_parts s
  rw [hflags, tickFront, adoptAudio_of_none ha]
  rcases modulatorStep_flags s with h | h
  · exact h
  · rw [h, adoptStation_of_none hr]

/-- A tick of two engines in step makes the same sample and leaves them in step (R290). -/
theorem SameEngine.tick {s t : State} (h : SameEngine s t) :
    (tick t).1 = (tick s).1 ∧ SameEngine (tick s).2 (tick t).2 := by
  have hfront : tickFront t = (tickFront s).withUnread t :=
    (congrArg tickFront h.eq_withUnread).trans (tickFront_withUnread h.pendRds h.pendAud)
  obtain ⟨hdrawn, hworld⟩ := drawAudio_of_world (s := tickFront s) (t := tickFront t) (by rw [hfront]; rfl)
  have haudio : tickAudio t = tickAudio s := by
    rw [tickAudio_eq, tickAudio_eq, hdrawn, hfront, h.cond]
    rfl
  have hparts : tickParts t = tickParts s := by
    rw [tickParts_eq, tickParts_eq, haudio, hfront, h.modu]
    rfl
  obtain ⟨sample, ac, flags, cur, cond, acc, modu, cnt, world⟩ := tick_parts s
  obtain ⟨sample', ac', flags', cur', cond', acc', modu', cnt', world'⟩ := tick_parts t
  have hkept := tick_flags_of_none h.pendRds h.pendAud
  rw [hparts] at sample' acc'
  rw [hfront] at ac' flags' cur' modu' cnt'
  exact ⟨sample'.trans sample.symm,
    { ac := ac'.trans ac.symm
      flags := flags'.trans flags.symm
      cur := cur'.trans cur.symm
      modu := modu'.trans modu.symm
      cond := by rw [cond', cond, haudio]
      pipe := by rw [tick_pipe, tick_pipe, h.pipe]
      acc := by rw [acc', acc, h.acc]
      mon := by rw [tick_mon, tick_mon, h.mon]
      cnt := cnt'.trans cnt.symm
      par := by rw [tick_par, tick_par, h.par]
      world := by rw [world', world, hworld]
      pendRds := by rw [hkept, h.pendRds]
      pendAud := by rw [hkept, h.pendAud] }⟩

/-- The converter is none of the parts compared. -/
theorem SameEngine.setConv {s t : State} (h : SameEngine s t) (c d : Converter) : SameEngine (s.setConv c) (t.setConv d) :=
  { h with }

/-- Engines in step whose converters agree too: what an rs_out reads (45_rate_converter.md R304). -/
structure SameConverted (s t : State) : Prop where
  engine : SameEngine s t
  conv : t.conv = s.conv

/-- One turn of the loop of rs_out keeps two converters in step (R304). -/
theorem SameConverted.rsInput {s t : State} (h : SameConverted s t) : SameConverted (rsInput s) (rsInput t) := by
  obtain ⟨hsample, hengine⟩ := h.engine.tick
  refine ⟨hengine.setConv _ _, ?_⟩
  simp only [Machine.rsInput, State.setConv_conv, tick_conv, h.conv, hsample]

/-- The loop makes the same turns in both (R304). -/
theorem SameConverted.rsPull {s t : State} (h : SameConverted s t) (n : Nat) : SameConverted (rsPull n s) (rsPull n t) := by
  induction n generalizing s t with
  | zero => exact h
  | succ n ih =>
    unfold Machine.rsPull
    rw [h.conv]
    split
    · exact ih h.rsInput
    · exact h

/-- An rs_out of two machines in step makes the same sample and leaves them in step (R304). -/
theorem SameConverted.rsOut {s t : State} (h : SameConverted s t) :
    (rsOut t).1 = (rsOut s).1 ∧ SameConverted (rsOut s).2 (rsOut t).2 := by
  have hpulled := h.rsPull s.conv.pos.toNat
  unfold Machine.rsOut
  rw [h.conv]
  simp only [hpulled.conv]
  exact ⟨trivial, hpulled.engine.setConv _ _, rfl⟩

/-! #### Two streams in step -/

/-- Two running streams with no STOP waiting agree in all their takes read: the engine and, in live mode, the converter (R336). -/
structure SameStream (s t : State) : Prop where
  engine : SameEngine s t
  conv : s.pipe.liveAct = true → t.conv = s.conv
  streaming : s.pipe.stream = .streaming
  noStop : s.pipe.stopReq = false

/-- The engine's run of one take makes the same sample in both streams and leaves them in step (R336). -/
theorem SameStream.takeRun {s t : State} (h : SameStream s t) :
    (takeRun t).1 = (takeRun s).1 ∧ SameStream (takeRun s).2 (takeRun t).2 := by
  have hpipe := takeRun_pipe s
  have hmode : t.pipe.liveAct = s.pipe.liveAct := by rw [h.engine.pipe]
  suffices hrun : (Machine.takeRun t).1 = (Machine.takeRun s).1 ∧ SameEngine (Machine.takeRun s).2 (Machine.takeRun t).2 ∧
      (s.pipe.liveAct = true → (Machine.takeRun t).2.conv = (Machine.takeRun s).2.conv) by
    obtain ⟨hsample, hengine, hconv⟩ := hrun
    exact ⟨hsample, hengine, by rwa [hpipe], by rw [hpipe, h.streaming], by rw [hpipe, h.noStop]⟩
  cases hl : s.pipe.liveAct
  · obtain ⟨hsample, hengine⟩ := h.engine.tick
    rw [takeRun_file hl, takeRun_file (hmode.trans hl)]
    exact ⟨hsample, hengine, nofun⟩
  · obtain ⟨hsample, hafter⟩ := SameConverted.rsOut ⟨h.engine, h.conv hl⟩
    rw [takeRun_live hl, takeRun_live (hmode.trans hl)]
    exact ⟨hsample, hafter.engine, fun _ => hafter.conv⟩

/-- Counting a take, and ending the buffer it fills, keeps two streams in step (R336, R339). -/
theorem SameStream.countTake {s t : State} (h : SameStream s t) : SameStream (countTake s) (countTake t) := by
  have hstop : t.pipe.stopReq = false := by rw [h.engine.pipe, h.noStop]
  by_cases hfull : s.pipe.bufPos + 1 = s.pipe.bufLenAct
  · have hlatched : latchMonitors t = latchMonitors s := by
      rw [latchMonitors, h.engine.acc, h.engine.ac, h.engine.cond]
      rfl
    rw [countTake_of_full hfull, countTake_of_full (s := t) (by rwa [h.engine.pipe]), bufferComplete_of_no_stop h.noStop,
      bufferComplete_of_no_stop hstop, bufferLatched, bufferLatched, h.engine.pipe, hlatched]
    exact ⟨{ h.engine with pipe := rfl, acc := rfl, mon := rfl }, h.conv, h.streaming, h.noStop⟩
  · rw [countTake_of_room hfull, countTake_of_room (s := t) (by rwa [h.engine.pipe]), h.engine.pipe]
    exact ⟨{ h.engine with pipe := rfl }, h.conv, h.streaming, h.noStop⟩

/-- A take of two streams in step carries the same words on the port and leaves them in step (R336). -/
theorem SameStream.sinkTake {s t : State} (h : SameStream s t) :
    (sinkTake t).1 = (sinkTake s).1 ∧ SameStream (sinkTake s).2 (sinkTake t).2 := by
  obtain ⟨hsample, hrun⟩ := h.takeRun
  have hword : takeWord t = takeWord s := by
    unfold takeWord
    rw [h.engine.pipe, h.engine.par]
  rw [sinkTake_streaming h.streaming, sinkTake_streaming (s := t) (by rw [h.engine.pipe, h.streaming]), hsample, hword]
  exact ⟨rfl, hrun.countTake⟩

/-- Streams in step deliver the same samples, however many are taken. -/
theorem SameStream.takeSamples_eq {s t : State} (h : SameStream s t) (n : Nat) : takeSamples n s = takeSamples n t := by
  induction n generalizing s t with
  | zero => rfl
  | succ n ih =>
    obtain ⟨hsample, hafter⟩ := h.sinkTake
    rw [takeSamples, takeSamples, hsample, ih hafter]

/-! #### START -/

/-- A START from IDLE that ends in a stream passed its checks and the sink accepted (40_host_operations.md R146). -/
theorem start_accepted {s : State} (hs : s.pipe.stream = .idle) (h : (start s).pipe.stream = .streaming) :
    startRefusal s = none ∧ (sinkOpen (offeredRate s) s.ctl.live s).1 = .ok := by
  rcases start_cases s with ⟨c, code, -, heq⟩ | ⟨hpass, ⟨hok, -⟩ | ⟨-, heq⟩ | ⟨-, heq⟩⟩
  case inr.inl => exact ⟨hpass, hok⟩
  all_goals
    rw [heq] at h
    simp [hs] at h

/-- A START that passes its checks and whose sink accepts begins the stream (R146). -/
theorem start_of_accepted {s : State} (hpass : startRefusal s = none) (hok : (sinkOpen (offeredRate s) s.ctl.live s).1 = .ok) :
    start s = beginStream (sinkOpen (offeredRate s) s.ctl.live s).2 := by
  unfold start
  rw [hpass]
  simp only [hok]

/-- START reads STATE, the mode registers, CFG_VALID and the parameters of the machine itself, and the environment. -/
structure SameStart (s t : State) : Prop where
  stream : t.pipe.stream = s.pipe.stream
  flags : t.flags = s.flags
  ac : t.ac = s.ac
  par : t.par = s.par
  world : t.world = s.world
  live : t.ctl.live = s.ctl.live
  outRate : t.ctl.outRate = s.ctl.outRate
  bufLen : t.ctl.bufLen = s.ctl.bufLen

theorem SameStart.startRefusal_eq {s t : State} (h : SameStart s t) : startRefusal t = startRefusal s := by
  unfold startRefusal
  rw [h.stream, h.flags, h.bufLen, h.live, h.par, h.outRate]

/-- The request to the sink is the same, and so is what comes back (10_state.md R59). -/
theorem SameStart.sinkOpen_eq {s t : State} (h : SameStart s t) :
    (sinkOpen (offeredRate t) t.ctl.live t).1 = (sinkOpen (offeredRate s) s.ctl.live s).1 ∧
      (sinkOpen (offeredRate t) t.ctl.live t).2.world = (sinkOpen (offeredRate s) s.ctl.live s).2.world :=
  drawSink_of_world h.world

/-- The request to the sink changes nothing START reads but the environment. -/
theorem SameStart.sinkOpen {s t : State} (h : SameStart s t) :
    SameStart (sinkOpen (offeredRate s) s.ctl.live s).2 (sinkOpen (offeredRate t) t.ctl.live t).2 where
  stream := by simp [h.stream]
  flags := by simp [h.flags]
  ac := by simp [h.ac]
  par := by simp [h.par]
  world := h.sinkOpen_eq.2
  live := by simp [h.live]
  outRate := by simp [h.outRate]
  bufLen := by simp [h.bufLen]

/-- In live mode the entry latched is the bank's, whatever entry was in place (R146 (d)). -/
theorem SameStart.latchedEntry_eq {s t : State} (h : SameStart s t) (hlive : s.ctl.live = true)
    (hkey : bankLookup s.par s.ctl.outRate ≠ none) : latchedEntry t = latchedEntry s := by
  obtain ⟨e, he⟩ := Option.ne_none_iff_exists'.1 hkey
  simp only [latchedEntry, h.live, h.par, h.outRate, hlive, he, if_true, Option.getD_some]

theorem beginStream_cur (s : State) : (beginStream s).cur = Cursor.reset := rfl

theorem beginStream_mon (s : State) : (beginStream s).mon = Monitors.reset := rfl

/-- Two streams begun alike are in step: the stream reset clears all else they read (10_state.md R62; R190, R347). -/
theorem SameStart.beginStream {s t : State} (h : SameStart s t) (hr : s.flags.pendRds = false) (ha : s.flags.pendAud = false)
    (hkey : s.ctl.live = true → bankLookup s.par s.ctl.outRate ≠ none) : SameStream (beginStream s) (beginStream t) where
  engine :=
    { ac := by rw [beginStream_ac, beginStream_ac, h.ac]
      flags := by rw [beginStream_flags, beginStream_flags, h.flags]
      cur := by rw [beginStream_cur, beginStream_cur]
      modu := by rw [(beginStream_engineReset t).modu, (beginStream_engineReset s).modu]
      cond := by rw [(beginStream_engineReset t).cond, (beginStream_engineReset s).cond]
      pipe := by rw [beginStream_pipe, beginStream_pipe, h.live, h.bufLen]
      acc := by rw [(beginStream_engineReset t).acc, (beginStream_engineReset s).acc]
      mon := by rw [beginStream_mon, beginStream_mon]
      cnt := by rw [(beginStream_engineReset t).cnt, (beginStream_engineReset s).cnt]
      par := by rw [beginStream_par, beginStream_par, h.par]
      world := by rw [beginStream_world, beginStream_world, h.world]
      pendRds := by rw [beginStream_flags, hr]
      pendAud := by rw [beginStream_flags, ha] }
  conv hlive := by rw [beginStream_conv, beginStream_conv, h.latchedEntry_eq hlive (hkey hlive)]
  streaming := rfl
  noStop := rfl

/-- Two machines alike in what START reads begin streams in step, if one of them begins a stream (R347). -/
theorem SameStart.start {s t : State} (h : SameStart s t) (hidle : s.pipe.stream = .idle) (hr : s.flags.pendRds = false)
    (ha : s.flags.pendAud = false) (hbegun : (start s).pipe.stream = .streaming) : SameStream (start s) (start t) := by
  obtain ⟨hpass, hok⟩ := start_accepted hidle hbegun
  obtain ⟨-, -, -, hkey⟩ := (startRefusal_eq_none_iff s).1 hpass
  rw [start_of_accepted hpass hok, start_of_accepted (h.startRefusal_eq.trans hpass) (h.sinkOpen_eq.1.trans hok)]
  exact h.sinkOpen.beginStream (by simpa using hr) (by simpa using ha) (by simpa using hkey)

/-- Settles O58: the two streams are in step from START on. -/
theorem restartIsFresh : Obligations.RestartIsFresh := by
  unfold Obligations.RestartIsFresh
  intro g s1 s2 t1 t2 n hidle1 hidle2 hflags hr ha hac hpar hworld hlive hrate hlen h1 h2 hbegun
  obtain rfl : start s1 = t1 := Host.Outcome.next.inj h1
  obtain rfl : start s2 = t2 := Host.Outcome.next.inj h2
  have hsame : SameStart s1 s2 :=
    ⟨hidle2.trans hidle1.symm, hflags.symm, hac.symm, hpar.symm, hworld.symm, hlive.symm, hrate.symm, hlen.symm⟩
  have hstream := hsame.start hidle1 hr ha hbegun
  exact ⟨by rw [hstream.engine.pipe, hbegun], hstream.takeSamples_eq n⟩

end Sys2Proof.Machine

/-! ### Every step completes (60_exceptions.md R360, 30_encoding.md R114 (c)) -/

namespace Sys2Proof.Machine

/-- The row of slot 4A answers whether the clock is valid or not: a skipped slot is no error (41_group_encoder.md R181). -/
theorem exists_next_of_exec_slot4A (s : State) : ∃ t, exec .slot4A s = .next t := by
  cases hct : s.ac.station.ctValid with
  | false => exact ⟨_, exec_slot4A_of_skipped hct⟩
  | true => exact ⟨_, exec_decodeSlot (code := 2) (by simp [SkippedSlot, hct])⟩

/-- No instruction stops the machine: an error is a flag in the state it answers (R360). -/
theorem exists_next_of_exec (i : Instr) (s : State) : ∃ t, exec i s = .next t := by
  cases i with
  | slot4A => exact exists_next_of_exec_slot4A s
  | _ => exact ⟨_, rfl⟩

/-- B2 is the only format with words that are no instruction (R114 (c)). -/
theorem eq_b2_of_decode_eq_none {r : Request} (h : decode r = none) : ∃ w, r = .b2 w := by
  cases r with
  | b2 w => exact ⟨w, rfl⟩
  | bus | cmd | slot | block | group | event => cases h

/-- A step whose request decodes answers what its instruction does (R360). -/
theorem exists_next_of_step {s : State} {i : Instr} (h : decode (takeRequest s).1 = some i) : ∃ t, step s = .next t := by
  rw [step_of_takeRequest rfl h]
  exact exists_next_of_exec i _

theorem step_of_decode_eq_none {s : State} (h : decode (takeRequest s).1 = none) : step s = .refused .undecodable := by
  simp only [step, h]

/-- A request that does not decode was put before the machine as a row: every agent's step decodes (00_scope.md R16). -/
theorem row_of_decode_eq_none {s : State} (h : decode (takeRequest s).1 = none) : s.world.row = some (takeRequest s).1 := by
  cases hrow : s.world.row with
  | none =>
    obtain ⟨a, ha⟩ := takeRequest_of_no_row hrow
    obtain ⟨i, hi, -⟩ := decode_requestOfAgent a
    rw [ha, hi] at h
    cases h
  | some r => rw [takeRequest_of_row hrow]

/-- Settles O5: a request that decodes is run to a next state, and one that does not is a row of format B2. -/
theorem stepStopsOnlyOnAnUndecodableBlockTwo : Obligations.StepStopsOnlyOnAnUndecodableBlockTwo := by
  unfold Obligations.StepStopsOnlyOnAnUndecodableBlockTwo
  intro s
  cases hdecode : decode (takeRequest s).1 with
  | some i => exact .inl (exists_next_of_step hdecode)
  | none =>
    obtain ⟨w, hw⟩ := eq_b2_of_decode_eq_none hdecode
    have hrow := row_of_decode_eq_none hdecode
    have hstep := step_of_decode_eq_none hdecode
    rw [hw] at hrow hdecode
    exact .inr ⟨hstep, w, hrow, hdecode⟩

end Sys2Proof.Machine

/-! ### The interrupt line (60_exceptions.md R370) -/

namespace Sys2Proof.Machine

/-- A word is not 0 exactly when one of its bits is set. -/
theorem ne_zero_iff_exists_getLsbD {w : Nat} (v : BitVec w) : v ≠ 0 ↔ ∃ k, k < w ∧ v.getLsbD k = true := by
  simp [BitVec.eq_of_getLsbD_eq_iff]

/-- Settles O28: a bit of (ERR and IRQ_EN) is set where a flag and its enable both are. -/
theorem irqIsErrAndEnable : Obligations.IrqIsErrAndEnable := by
  unfold Obligations.IrqIsErrAndEnable
  intro s
  rw [State.irq, decide_eq_true_iff, ne_zero_iff_exists_getLsbD]
  simp only [BitVec.getLsbD_and, Bool.and_eq_true]

end Sys2Proof.Machine

/-! ### The two full resets (70_reset_and_hazards.md R400, R402, 40_host_operations.md R151; log 22) -/

namespace Sys2Proof.Machine

/-- A hardware reset is the reset state, but for the ports, the environment and the parameters (R402; log 22). -/
theorem hardwareReset_eq (s : State) :
    hardwareReset s = ((State.reset.setOut s.out).setWorld s.world).withPar s.par := rfl

theorem exec_hwReset (s : State) : exec .hwReset s = .next (hardwareReset s) := rfl

theorem exec_softReset (g : BitVec 24) (s : State) : exec (.softReset g) s = .next (softReset s) := rfl

/-- In IDLE no sink is held, so none is released (R151). -/
theorem softReset_idle {s : State} (h : s.pipe.stream = .idle) : softReset s = hardwareReset s := by
  unfold softReset
  rw [h]

/-- While STREAMING the sink is released before the reset (R151). -/
theorem softReset_streaming {s : State} (h : s.pipe.stream = .streaming) : softReset s = hardwareReset (pulseRelease s) := by
  unfold softReset
  rw [h]

/-- Settles O26: all three are the hardware reset, the last of them of a state with the release pulse on its port. -/
theorem resetsRestoreTheResetState : Obligations.ResetsRestoreTheResetState := by
  unfold Obligations.ResetsRestoreTheResetState
  refine fun g s => ⟨?_, fun hidle => ?_, fun hstreaming => ?_⟩
  · rw [exec_hwReset, hardwareReset_eq]
  · rw [exec_softReset, softReset_idle hidle, hardwareReset_eq]
  · rw [exec_softReset, softReset_streaming hstreaming, hardwareReset_eq]
    rfl

end Sys2Proof.Machine
